-- ==== Sys2Proof/Word.lean ====
section
/-! DEFINITION. The two word types the spec names: the byte (slots, snapshot fields, `rsp_data`) and the
5-bit command word `cmd_op`. -/

namespace Sys2Proof

/-- An 8-bit value; bit 7 is the most significant (R12). -/
abbrev Byte := BitVec 8

/-- The command word `cmd_op[4:0]` (R56). -/
abbrev CmdWord := BitVec 5

end Sys2Proof
end

