-- ==== Sys2Proof/Config.lean ====
section
/-! DEFINITION. The implementation parameters of the block (R5 to R10) and the model's one free value, the level
of the data line in a tick for which no level is listed (R48, U7). -/

namespace Sys2Proof

/-- One pulse of the request: the line is pulled low for `low` ticks, then released for `high` ticks (R9). -/
structure ReqPulse where
  low : Nat
  high : Nat
deriving DecidableEq, Repr

/-- The open parameters of R6 to R10: fixed when the block is built, never written by an operation (R14). They
stand in `State` so that every statement about all states is about all parameter values (log entry 1). -/
structure Params where
  /-- `TICK_NS`, the length of one tick in nanoseconds; no rule depends on it (R6; log entry 2). -/
  tickNs : Rat
  /-- `T_SAMPLE`, ticks from the detected start of a cell to its sample (R7). -/
  tSample : Nat
  /-- `T_TIMEOUT`, ticks of the wrong level after which a wait gives up (R8). -/
  tTimeout : Nat
  /-- `REQ_PULSES`, the request pulse sequence (R9). -/
  reqPulses : List ReqPulse
  /-- `HARDENED`: `true` is 1, the rewrite's explicit timeout; `false` is 0, the source's zero-fill (R10). -/
  hardened : Bool
deriving DecidableEq, Repr

/-- The defaults of R6 to R10: 1000 ns, 2, 64, the request of 35 ticks, `HARDENED = 1`. -/
def Params.default : Params where
  tickNs := 1000
  tSample := 2
  tTimeout := 64
  reqPulses := [⟨3, 1⟩, ⟨3, 1⟩, ⟨3, 1⟩, ⟨3, 1⟩, ⟨3, 1⟩, ⟨3, 1⟩, ⟨3, 1⟩, ⟨1, 3⟩, ⟨1, 2⟩]
  hardened := true

/-- The number of slots of the Raw Capture Buffer (`N_SLOTS`, R5). -/
abbrev nSlots : Nat := 33

/-- The number of response data bits of a poll (`N_BITS`, R5). -/
abbrev nBits : Nat := 32

/-- FREE VALUE (R48, U7; log entry 3): the level of the data line in tick `t` when the state lists no level for
it. It has no body, so nothing can be proved of it: any level may come. -/
opaque Config.freeLine : Nat → Bool

end Sys2Proof
end

