-- ==== Sys2Proof/Syntax.lean ====
section
/-! DEFINITION. The 18 operations of the command port, one constructor per row of the opcode table (R56, R59).
No operation has an operand (R66). -/

namespace Sys2Proof

/-- The host's operations (R59). -/
inductive Instr where
  | dRightDown   -- 0x00, reads data1[0]
  | dLeftDown    -- 0x01, reads data1[1]
  | dDownDown    -- 0x02, reads data1[2]
  | dUpDown      -- 0x03, reads data1[3]
  | startDown    -- 0x04, reads data1[4]
  | zDown        -- 0x05, reads data1[5]
  | bDown        -- 0x06, reads data1[6]
  | aDown        -- 0x07, reads data1[7]
  | cRightDown   -- 0x08, reads data2[0]
  | cLeftDown    -- 0x09, reads data2[1]
  | cDownDown    -- 0x0A, reads data2[2]
  | cUpDown      -- 0x0B, reads data2[3]
  | rBumperDown  -- 0x0C, reads data2[4]
  | lBumperDown  -- 0x0D, reads data2[5]
  | poll         -- 0x10, starts a poll
  | stickX       -- 0x11, reads stickX
  | stickY       -- 0x12, reads stickY
  | pollResult   -- 0x13, reads result
deriving DecidableEq, Repr

end Sys2Proof
end

