-- ==== Sys2Proof/WellFormed.lean ====
section
/-! DEFINITION. What must hold of the inputs the model is given: an operation (always well formed, it has no
operands, R66), a command word (not reserved, R60) and the parameters (R6 to R9). -/

namespace Sys2Proof

/-- Every operation is well formed: it has no operand that could be out of range (R66). -/
def Instr.wellFormed (_ : Instr) : Bool := true

/-- A command word names an operation: it is none of the 14 reserved words `0x0E`, `0x0F`, `0x14` to `0x1F` (R60). -/
def CmdWord.wellFormed (w : CmdWord) : Bool :=
  w != 0x0E#5 && w != 0x0F#5 && decide (w.toNat < 0x14)

/-- A request pulse has `L >= 1` and `H >= 1` (R9). -/
def ReqPulse.wellFormed (p : ReqPulse) : Bool := decide (1 ≤ p.low) && decide (1 ≤ p.high)

/-- The side conditions of the parameters: `TICK_NS > 0` (R6), `T_SAMPLE >= 1` (R7), `T_TIMEOUT >= 1` (R8),
`REQ_PULSES` not empty with every `L` and `H` at least 1 (R9). -/
def Params.wellFormed (p : Params) : Bool :=
  decide (0 < p.tickNs) && decide (1 ≤ p.tSample) && decide (1 ≤ p.tTimeout)
    && !p.reqPulses.isEmpty && p.reqPulses.all ReqPulse.wellFormed

end Sys2Proof
end

