-- ==== Sys2Proof/Decode.lean ====
section
/-! DEFINITION. The command word: its fields (R57, R58, R66), the decoder, total on the 32 words and refusing the
14 reserved ones by name (R59, R60), and the encoder written from the same formats. -/

namespace Sys2Proof

/-- Field `cls`, bit 4: `false` is format Q, `true` is format C (R57, R58). -/
def cmdCls (w : CmdWord) : Bool := w.getLsbD 4

/-- Field `bsel` of format Q, bit 3: `false` selects `data1`, `true` selects `data2` (R57). -/
def cmdBsel (w : CmdWord) : Bool := w.getLsbD 3

/-- Field `bit` of format Q, bits 2:0: the bit number inside the byte (R57). -/
def cmdBit (w : CmdWord) : Nat := (w.extractLsb' 0 3).toNat

/-- Field `fn` of format C, bits 3:0 (R58). -/
def cmdFn (w : CmdWord) : Nat := (w.extractLsb' 0 4).toNat

/-- Why a command word is no operation (R60). -/
inductive DecodeError where
  /-- Format Q, `bsel = 1`, `bit` 6 or 7: words `0x0E` and `0x0F`, whose bits DOC does not name. -/
  | reservedQuery (bit : Nat)
  /-- Format C, `fn` 4 to 15: words `0x14` to `0x1F`. -/
  | reservedControl (fn : Nat)
deriving DecidableEq, Repr

/-- Format Q: the predicate that reads bit `bit` of the byte `bsel` (R57, R59). -/
def decodeQuery (bsel : Bool) (bit : Nat) : Except DecodeError Instr :=
  match bsel, bit with
  | false, 0 => .ok .dRightDown
  | false, 1 => .ok .dLeftDown
  | false, 2 => .ok .dDownDown
  | false, 3 => .ok .dUpDown
  | false, 4 => .ok .startDown
  | false, 5 => .ok .zDown
  | false, 6 => .ok .bDown
  | false, 7 => .ok .aDown
  | true, 0 => .ok .cRightDown
  | true, 1 => .ok .cLeftDown
  | true, 2 => .ok .cDownDown
  | true, 3 => .ok .cUpDown
  | true, 4 => .ok .rBumperDown
  | true, 5 => .ok .lBumperDown
  | _, b => .error (.reservedQuery b)

/-- Format C: the operation `fn` selects (R58, R59). -/
def decodeControl (fn : Nat) : Except DecodeError Instr :=
  match fn with
  | 0 => .ok .poll
  | 1 => .ok .stickX
  | 2 => .ok .stickY
  | 3 => .ok .pollResult
  | f => .error (.reservedControl f)

/-- The decoder of the command port (R56 to R60). -/
def decodeWord (w : CmdWord) : Except DecodeError Instr :=
  if cmdCls w then decodeControl (cmdFn w) else decodeQuery (cmdBsel w) (cmdBit w)

/-- The operation in a command word given as a number, bit 0 the least significant, as the opcode table numbers
its bits. A command word has 5 bits (R56), so a number above `0x1F` is none; there is no second word. -/
def decodeTableWord (_nbits w : Nat) : Option Instr :=
  if w < 32 then (decodeWord (BitVec.ofNat 5 w)).toOption else none

/-- Format Q put together: `cls = 0`, `bsel`, `bit` (R57). -/
def encodeQuery (bsel : BitVec 1) (bit : BitVec 3) : CmdWord := 0#1 ++ bsel ++ bit

/-- Format C put together: `cls = 1`, `fn` (R58). -/
def encodeControl (fn : BitVec 4) : CmdWord := 1#1 ++ fn

/-- The command word of an operation (R59). -/
def encode (i : Instr) : CmdWord :=
  match i with
  | .dRightDown => encodeQuery 0 0
  | .dLeftDown => encodeQuery 0 1
  | .dDownDown => encodeQuery 0 2
  | .dUpDown => encodeQuery 0 3
  | .startDown => encodeQuery 0 4
  | .zDown => encodeQuery 0 5
  | .bDown => encodeQuery 0 6
  | .aDown => encodeQuery 0 7
  | .cRightDown => encodeQuery 1 0
  | .cLeftDown => encodeQuery 1 1
  | .cDownDown => encodeQuery 1 2
  | .cUpDown => encodeQuery 1 3
  | .rBumperDown => encodeQuery 1 4
  | .lBumperDown => encodeQuery 1 5
  | .poll => encodeControl 0
  | .stickX => encodeControl 1
  | .stickY => encodeControl 2
  | .pollResult => encodeControl 3

end Sys2Proof
end

