-- ==== Sys2Proof/Machine/State.lean ====
section
/-! DEFINITION. The state: the block's record `S` of R14 (`Block`), the ports of R34 and R35 that a step reads and
shows, and the fixed parameters; the reasons a step stops; and the machine after reset (R37). -/

namespace Sys2Proof.Machine

/-- The sequencer's position (R27). -/
inductive Phase where
  /-- 0 IDLE: waiting for a POLL command. -/
  | idle
  /-- 1 REQ: driving the request pulse sequence. -/
  | req
  /-- 2 CAP: capturing 33 bit cells. -/
  | cap
  /-- 3 DEC: packing the slots into the snapshot. -/
  | dec
deriving DecidableEq, Repr

/-- The position inside one cell capture, meaningful in CAP (R28); code 3 is never held. -/
inductive SubPhase where
  /-- 0 WAIT_LOW: waiting for the start of the cell. -/
  | waitLow
  /-- 1 DELAY: counting up to the sample. -/
  | delay
  /-- 2 WAIT_HIGH: waiting for the line to be high again. -/
  | waitHigh
deriving DecidableEq, Repr

/-- The status register `result`: the outcome of the last poll that finished (R32, R62). -/
inductive PollResult where
  /-- 0 Success. -/
  | success
  /-- 1 Timeout. -/
  | timeout
  /-- 2 ChecksumMismatch: reserved, produced by no rule (R123). -/
  | checksumMismatch
  /-- 3 None: no poll has finished since reset. -/
  | notPolled
deriving DecidableEq, Repr

/-- The Controller Status Snapshot: four bytes (R19). -/
structure Snapshot where
  /-- Button flags A, B, Z, Start, D-Up, D-Down, D-Left, D-Right, from bit 7 down (R22). -/
  data1 : Byte
  /-- Two unnamed bits, then L, R, C-Up, C-Down, C-Left, C-Right, from bit 7 down (R23, R25). -/
  data2 : Byte
  /-- The X axis, an 8-bit pattern read as two's complement (R26). -/
  stickX : Byte
  /-- The Y axis, an 8-bit pattern read as two's complement (R26). -/
  stickY : Byte
deriving DecidableEq, Repr

/-- The block's state `S`, exactly the record of R14. The three counters are naturals (R11). -/
structure Block where
  /-- The Raw Capture Buffer `raw[0..32]`, one byte per slot, in transmission order (R15). -/
  raw : Vector Byte 33
  snap : Snapshot
  phase : Phase
  sub : SubPhase
  /-- Index into `REQ_WAVE`, meaningful in REQ (R29). -/
  reqPos : Nat
  /-- Number of cells sampled so far in this poll (R30). -/
  bitIdx : Nat
  /-- Ticks counted in the current wait (R31). -/
  timer : Nat
  result : PollResult
deriving DecidableEq, Repr

/-- What the host puts on its input ports in one tick (R35). -/
structure HostPort where
  /-- `rst`, synchronous reset, active high. -/
  rst : Bool
  /-- `cmd_valid`: an operation is presented. -/
  cmdValid : Bool
  /-- `cmd_op`, ignored when `cmdValid` is false. -/
  cmdOp : CmdWord
deriving DecidableEq, Repr

/-- A tick in which the host presents nothing. -/
def HostPort.silent : HostPort := ⟨false, false, 0#5⟩

/-- The output ports during one tick (R34). -/
structure Outputs where
  /-- `line_drive_low`: the block pulls the line low. -/
  lineDriveLow : Bool
  busy : Bool
  rspData : Byte
  rspErr : Bool
deriving DecidableEq, Repr

/-- The machine's state at the start of a tick. `blk` is the spec's `S`; the other fields are the model's own:
the parameters, the inputs of this and the following ticks, and the outputs of the tick before (log entries 1, 3
to 6). -/
structure State where
  /-- R6 to R10: written by nothing. -/
  params : Params
  /-- The block's state `S_t` (R14). -/
  blk : Block
  /-- The host's ports, this tick first; past its end the host presents nothing (R53, log entry 4). -/
  hostQ : List HostPort
  /-- The levels of `line_in` (`true` = high), this tick first; past its end the level is the free value
  `Config.freeLine` (R48, log entry 3). -/
  lineQ : List Bool
  /-- The number of the tick (R13); it only picks the free value. -/
  tick : Nat
  /-- The outputs shown in the tick before (log entry 5). -/
  out : Outputs
deriving DecidableEq, Repr

/-- Why the machine stops with a fault. -/
inductive Fault where
  /-- Raised by the sample store alone: a slot index above 32, an address the slot space does not have (R38, R42,
  R79). Safe: no state that reset reaches raises it. -/
  | noSuchSlot (index : Nat)
deriving DecidableEq, Repr

/-- Why a step has no meaning. -/
inductive Refusal where
  /-- Raised by `exec` for an operation without a meaning; no arm does so any more. Safe. -/
  | notModelled (mnemonic : String)
  /-- Raised by `poll()` presented while `busy = 1`, which the spec leaves without a next state and asks a model
  to refuse (R72, R126, U1). Safe. -/
  | pollWhileBusy
deriving DecidableEq, Repr

/-- The block after reset (R37, R137). -/
def Block.reset : Block where
  raw := Vector.replicate 33 0#8
  snap := ⟨0#8, 0#8, 0#8, 0#8⟩
  phase := .idle
  sub := .waitLow
  reqPos := 0
  bitIdx := 0
  timer := 0
  result := .notPolled

/-- The outputs of a tick in which nothing is driven and nothing presented: all zero. -/
def Outputs.quiet : Outputs := ⟨false, false, 0#8, false⟩

/-- The machine right after reset: the block of R37 with the default parameters (R6 to R10), no input listed, and
no output shown yet (log entries 1, 5, 6). -/
def State.reset : State where
  params := Params.default
  blk := Block.reset
  hostQ := []
  lineQ := []
  tick := 0
  out := Outputs.quiet

end Sys2Proof.Machine
end

