-- ==== Sys2Proof/Machine/Operands.lean ====
section
/-! DEFINITION. The operand forms: bits and bytes of the snapshot (R22, R23, R57), the extensions of R12's table of
primitives, and the numeric codes of the sequencer and of `result` (R27, R28, R32, R62). -/

namespace Sys2Proof.Machine

/-- `zext_8(b)`: the byte `0000000b`. -/
def zext8 (b : Bool) : Byte := if b then 0x01#8 else 0x00#8

/-- `sext_8_to_int(v)`: the two's complement reading of a byte, -128 to 127 (R26). -/
def sext8ToInt (v : Byte) : Int := if v.toNat < 128 then (v.toNat : Int) else (v.toNat : Int) - 256

/-- `v[i]` of a byte, bit 7 the most significant (R12). -/
def byteBit (v : Byte) (i : Nat) : Bool := v.getLsbD i

/-- The byte that `bsel` selects: 0 is `data1`, 1 is `data2` (R57). -/
def Snapshot.selected (sn : Snapshot) (bsel : Bool) : Byte := if bsel then sn.data2 else sn.data1

/-- Field number `f` of the snapshot in transmission order (R39, R41). -/
def Snapshot.field (sn : Snapshot) (f : Fin 4) : Byte :=
  match f with
  | 0 => sn.data1
  | 1 => sn.data2
  | 2 => sn.stickX
  | 3 => sn.stickY

/-- The 2-bit code of a result (R32, R62). -/
def PollResult.code (r : PollResult) : BitVec 2 :=
  match r with
  | .success => 0
  | .timeout => 1
  | .checksumMismatch => 2
  | .notPolled => 3

/-- The 2-bit code of a phase (R27). -/
def Phase.code (p : Phase) : BitVec 2 :=
  match p with
  | .idle => 0
  | .req => 1
  | .cap => 2
  | .dec => 3

/-- The 2-bit code of a sub-phase (R28). -/
def SubPhase.code (p : SubPhase) : BitVec 2 :=
  match p with
  | .waitLow => 0
  | .delay => 1
  | .waitHigh => 2

end Sys2Proof.Machine
end

