-- ==== Sys2Proof/Machine/Ops.lean ====
section
/-! DEFINITION. The shared operations: the inputs of the tick (R35, R46), the slots (R15, R81, R90), the request
wave (R9), the response port (R61), accepting a poll (R70, R73), raising Timeout (R120, R121), and packing the
slots into the snapshot (R89, R90). -/

namespace Sys2Proof.Machine

/-! ### The inputs of the tick -/

/-- The host's ports during this tick; nothing is presented past the end of the list (R35, log entry 4). -/
def State.host (s : State) : HostPort := s.hostQ.headD HostPort.silent

/-- `LineRead()`: `line_in` during this tick, `true` = high (R46). Past the end of the list it is a free value
(R48, log entry 3). -/
def State.lineIn (s : State) : Bool := s.lineQ.headD (Config.freeLine s.tick)

/-! ### The request wave -/

/-- The ticks of one request pulse: `L` times 1, then `H` times 0 (R9). -/
def pulseWave (p : ReqPulse) : List Bool := List.replicate p.low true ++ List.replicate p.high false

/-- `REQ_WAVE`: one element per tick, `true` = pull low (R9). -/
def reqWave (p : Params) : List Bool := p.reqPulses.flatMap pulseWave

/-- `N_REQ`, the number of ticks of the request (R9). -/
def nReq (p : Params) : Nat := (reqWave p).length

/-! ### The slots -/

/-- Slot `i` of the Raw Capture Buffer, if the slot space has it (R15, R38). -/
def readSlot (raw : Vector Byte 33) (i : Nat) : Option Byte := raw[i]?

/-- `raw[i] <- v`: faults where the slot space has no slot `i` (R38, R42, log entry 8). -/
def writeSlot (b : Block) (i : Nat) (v : Byte) : Host.Outcome Block Fault Refusal :=
  if h : i < 33 then .next { b with raw := b.raw.set i v } else .fault (.noSuchSlot i)

/-- All 33 slots written `0x00` (R73). -/
def clearSlots (b : Block) : Block := { b with raw := Vector.replicate 33 0x00#8 }

/-- Bit 0 of slot `i`, `raw[i][0]` (R90; log entry 13). The decode reads slots 0 to 31 only. -/
def slotBit (raw : Vector Byte 33) (i : Nat) : Bool := byteBit ((readSlot raw i).getD 0#8) 0

/-- `pack8(raw, k)`: bit `7 - j` is `raw[k + j][0]`, so the first slot is the most significant bit (R40, R90). -/
def pack8 (raw : Vector Byte 33) (k : Nat) : Byte :=
  let b := fun j : Nat => BitVec.ofBool (slotBit raw (k + j))
  b 0 ++ b 1 ++ b 2 ++ b 3 ++ b 4 ++ b 5 ++ b 6 ++ b 7

/-- The snapshot the decode makes of the slots: four groups of eight, in the order of R41 (R89). -/
def packSnapshot (raw : Vector Byte 33) : Snapshot where
  data1 := pack8 raw 0
  data2 := pack8 raw 8
  stickX := pack8 raw 16
  stickY := pack8 raw 24

/-- `encode`: bit `i` of the 32-bit transmission pattern of a snapshot (R93). Not an operation of the block: the
inverse a model of the controller uses. -/
def frameBit (sn : Snapshot) (i : Fin 32) : Bool :=
  byteBit (sn.field ⟨i.val / 8, by omega⟩) (7 - i.val % 8)

/-! ### The response port -/

/-- The response of an operation: `rsp_data = v`, `rsp_err = 0` (R61). -/
def State.respond (s : State) (v : Byte) : State :=
  { s with out := { s.out with rspData := v, rspErr := false } }

/-- IllegalCommand: `rsp_data = 0x00`, `rsp_err = 1` in this tick, and nothing else (R60, R125). -/
def State.illegalCommand (s : State) : State :=
  { s with out := { s.out with rspData := 0x00#8, rspErr := true } }

/-- A tick with `cmd_valid = 0`: `rsp_data = 0x00`, `rsp_err = 0` (R61). -/
def State.noCommand (s : State) : State := s.respond 0x00#8

/-! ### Poll start and failure -/

/-- The accept branch of phase IDLE: the slots cleared, `phase <- REQ`, `req_pos <- 0`, nothing else (R70, R73). -/
def acceptPoll (b : Block) : Block := { clearSlots b with phase := .req, reqPos := 0 }

/-- `raise Timeout`, the one failure with an entry. Hardened: `result <- Timeout`, `phase <- IDLE`, no decode
(R120). Otherwise `phase <- DEC`, unsignalled (R121). Every other field keeps its value. -/
def raiseTimeout (p : Params) (b : Block) : Block :=
  if p.hardened then { b with result := .timeout, phase := .idle } else { b with phase := .dec }

end Sys2Proof.Machine
end

