-- ==== Sys2Proof/Machine/Flags.lean ====
section
/-! DEFINITION. The outputs of a tick as functions of `S_t` and of the same tick's inputs (R34, R61), written from
the fields of the command word and not from the meanings of the operations. -/

namespace Sys2Proof.Machine

/-- `busy`: 1 if `phase != IDLE` (R34). -/
def State.busy (s : State) : Bool := decide (s.blk.phase ≠ .idle)

/-- `line_drive_low`: 1 if `phase = REQ` and `REQ_WAVE[req_pos] = 1` (R34, R75; past the wave, log entry 15). -/
def State.lineDriveLow (s : State) : Bool :=
  decide (s.blk.phase = .req) && (reqWave s.params).getD s.blk.reqPos false

/-- The pair (`rsp_data`, `rsp_err`) that command word `w` shows in state `b`: the table of R61 over the fields of
R57 and R58. -/
def responseOf (b : Block) (w : CmdWord) : Byte × Bool :=
  if cmdCls w then
    match cmdFn w with
    | 0 => (0x00#8, false)
    | 1 => (b.snap.stickX, false)
    | 2 => (b.snap.stickY, false)
    | 3 => (b.result.code.setWidth 8, false)
    | _ => (0x00#8, true)
  else if cmdBsel w && decide (6 ≤ cmdBit w) then (0x00#8, true)
  else (zext8 (byteBit (b.snap.selected (cmdBsel w)) (cmdBit w)), false)

/-- `Out(S_t, in_t)`: the four output ports during the tick (R13, R34, R61). -/
def State.outputs (s : State) : Outputs where
  lineDriveLow := s.lineDriveLow
  busy := s.busy
  rspData := if s.host.cmdValid then (responseOf s.blk s.host.cmdOp).1 else 0x00#8
  rspErr := s.host.cmdValid && (responseOf s.blk s.host.cmdOp).2

end Sys2Proof.Machine
end

