-- ==== Sys2Proof/Machine/Poll.lean ====
section
/-! DEFINITION. The operation `poll()` (R70 to R73). -/

namespace Sys2Proof.Machine

/-- `poll()`: in IDLE it is accepted, with `rsp_data = 0x00` and `rsp_err = 0` (R70, R71); while busy it has no
next state and is refused (R72, R126, U1). The accepted poll then runs by the step rules of `Sequencer`. -/
def execPoll (s : State) : Host.Outcome State Fault Refusal :=
  match s.blk.phase with
  | .idle => .next ({ s with blk := acceptPoll s.blk }.respond 0x00#8)
  | .req => .refused .pollWhileBusy
  | .cap => .refused .pollWhileBusy
  | .dec => .refused .pollWhileBusy

end Sys2Proof.Machine
end

