-- ==== Sys2Proof/Machine/Query.lean ====
section
/-! DEFINITION. The 17 query operations (R95 to R112): each answers from `S_t` on the response port and writes no
state. -/

namespace Sys2Proof.Machine

/-- The answer of a button predicate: `0x01` if bit `bit` of `v` is 1, else `0x00`; `rsp_err = 0` (R95). -/
def answerBit (v : Byte) (bit : Nat) (s : State) : Host.Outcome State Fault Refusal :=
  .next (s.respond (zext8 (byteBit v bit)))

/-- The answer of a byte read: the stored pattern; `rsp_err = 0` (R95). -/
def answerByte (v : Byte) (s : State) : Host.Outcome State Fault Refusal := .next (s.respond v)

/-- `dRightDown()`: `data1[0]` (R96). -/
def execDRightDown (s : State) : Host.Outcome State Fault Refusal := answerBit s.blk.snap.data1 0 s

/-- `dLeftDown()`: `data1[1]` (R97). -/
def execDLeftDown (s : State) : Host.Outcome State Fault Refusal := answerBit s.blk.snap.data1 1 s

/-- `dDownDown()`: `data1[2]` (R98). -/
def execDDownDown (s : State) : Host.Outcome State Fault Refusal := answerBit s.blk.snap.data1 2 s

/-- `dUpDown()`: `data1[3]` (R99). -/
def execDUpDown (s : State) : Host.Outcome State Fault Refusal := answerBit s.blk.snap.data1 3 s

/-- `startDown()`: `data1[4]` (R100). -/
def execStartDown (s : State) : Host.Outcome State Fault Refusal := answerBit s.blk.snap.data1 4 s

/-- `zDown()`: `data1[5]` (R101). -/
def execZDown (s : State) : Host.Outcome State Fault Refusal := answerBit s.blk.snap.data1 5 s

/-- `bDown()`: `data1[6]` (R102). -/
def execBDown (s : State) : Host.Outcome State Fault Refusal := answerBit s.blk.snap.data1 6 s

/-- `aDown()`: `data1[7]` (R103). -/
def execADown (s : State) : Host.Outcome State Fault Refusal := answerBit s.blk.snap.data1 7 s

/-- `cRightDown()`: `data2[0]` (R104). -/
def execCRightDown (s : State) : Host.Outcome State Fault Refusal := answerBit s.blk.snap.data2 0 s

/-- `cLeftDown()`: `data2[1]` (R105). -/
def execCLeftDown (s : State) : Host.Outcome State Fault Refusal := answerBit s.blk.snap.data2 1 s

/-- `cDownDown()`: `data2[2]` (R106). -/
def execCDownDown (s : State) : Host.Outcome State Fault Refusal := answerBit s.blk.snap.data2 2 s

/-- `cUpDown()`: `data2[3]` (R107). -/
def execCUpDown (s : State) : Host.Outcome State Fault Refusal := answerBit s.blk.snap.data2 3 s

/-- `rBumperDown()`: `data2[4]` (R108). -/
def execRBumperDown (s : State) : Host.Outcome State Fault Refusal := answerBit s.blk.snap.data2 4 s

/-- `lBumperDown()`: `data2[5]` (R109). -/
def execLBumperDown (s : State) : Host.Outcome State Fault Refusal := answerBit s.blk.snap.data2 5 s

/-- `stickX()`: the X axis pattern (R110). -/
def execStickX (s : State) : Host.Outcome State Fault Refusal := answerByte s.blk.snap.stickX s

/-- `stickY()`: the Y axis pattern (R111). -/
def execStickY (s : State) : Host.Outcome State Fault Refusal := answerByte s.blk.snap.stickY s

/-- `pollResult()`: the code of `result`, zero extended; reading does not clear it (R112). -/
def execPollResult (s : State) : Host.Outcome State Fault Refusal :=
  answerByte (s.blk.result.code.setWidth 8) s

end Sys2Proof.Machine
end

