-- ==== Sys2Proof/Machine/Dispatch.lean ====
section
/-! DEFINITION. One arm per operation: its meaning. -/

namespace Sys2Proof.Machine

def exec (i : Instr) (s : State) : Host.Outcome State Fault Refusal :=
  match i with
  | .dRightDown => Sys2Proof.Machine.execDRightDown s
  | .dLeftDown => Sys2Proof.Machine.execDLeftDown s
  | .dDownDown => Sys2Proof.Machine.execDDownDown s
  | .dUpDown => Sys2Proof.Machine.execDUpDown s
  | .startDown => Sys2Proof.Machine.execStartDown s
  | .zDown => Sys2Proof.Machine.execZDown s
  | .bDown => Sys2Proof.Machine.execBDown s
  | .aDown => Sys2Proof.Machine.execADown s
  | .cRightDown => Sys2Proof.Machine.execCRightDown s
  | .cLeftDown => Sys2Proof.Machine.execCLeftDown s
  | .cDownDown => Sys2Proof.Machine.execCDownDown s
  | .cUpDown => Sys2Proof.Machine.execCUpDown s
  | .rBumperDown => Sys2Proof.Machine.execRBumperDown s
  | .lBumperDown => Sys2Proof.Machine.execLBumperDown s
  | .poll => Sys2Proof.Machine.execPoll s
  | .stickX => Sys2Proof.Machine.execStickX s
  | .stickY => Sys2Proof.Machine.execStickY s
  | .pollResult => Sys2Proof.Machine.execPollResult s

end Sys2Proof.Machine
end

