-- ==== Sys2Proof/Machine/Sequencer.lean ====
section
/-! DEFINITION. The step rules of the phases REQ, CAP and DEC (R74, R80 to R84, R89): what the block does by itself
in one tick, whatever the host presents. -/

namespace Sys2Proof.Machine

/-- The step of phase REQ (R74). It reads no input. -/
def reqTick (p : Params) (b : Block) : Block :=
  if b.reqPos + 1 = nReq p then
    { b with phase := .cap, sub := .waitLow, bitIdx := 0, timer := 0 }
  else { b with reqPos := b.reqPos + 1 }

/-- WAIT_LOW: a low line starts the cell, else the wait counts and gives up in its `T_TIMEOUT`-th tick (R80, R82). -/
def waitLowTick (p : Params) (line : Bool) (b : Block) : Block :=
  if line = false then { b with sub := .delay, timer := 1 }
  else if b.timer + 1 = p.tTimeout then raiseTimeout p b
  else { b with timer := b.timer + 1 }

/-- DELAY: `T_SAMPLE` ticks after the start of the cell its slot takes the level of the line (R81, R85). -/
def delayTick (p : Params) (line : Bool) (b : Block) : Host.Outcome Block Fault Refusal :=
  if b.timer = p.tSample then
    writeSlot { b with bitIdx := b.bitIdx + 1, sub := .waitHigh, timer := 0 } b.bitIdx (zext8 line)
  else .next { b with timer := b.timer + 1 }

/-- WAIT_HIGH: a high line ends the cell, and after the stop cell the capture; a low line is waited out, bounded by
`T_TIMEOUT` only if `HARDENED = 1` (R83, R84). -/
def waitHighTick (p : Params) (line : Bool) (b : Block) : Block :=
  if line then
    if b.bitIdx = 33 then { b with phase := .dec }
    else { b with sub := .waitLow, timer := 0 }
  else if p.hardened then
    if b.timer + 1 = p.tTimeout then raiseTimeout p b
    else { b with timer := b.timer + 1 }
  else b

/-- The step of phase CAP: the rule of the sub-phase (R79). -/
def capTick (p : Params) (line : Bool) (b : Block) : Host.Outcome Block Fault Refusal :=
  match b.sub with
  | .waitLow => .next (waitLowTick p line b)
  | .delay => delayTick p line b
  | .waitHigh => .next (waitHighTick p line b)

/-- The step of phase DEC: the snapshot, `result` and `phase` in one tick (R89). -/
def decTick (b : Block) : Block :=
  { b with snap := packSnapshot b.raw, result := .success, phase := .idle }

/-- The step rule of phase `ph` (R13). In IDLE the only rule is the accept of a `poll()`, which the operation
itself performs (R70), so nothing is left to do here. -/
def phaseTick (ph : Phase) (p : Params) (line : Bool) (b : Block) : Host.Outcome Block Fault Refusal :=
  match ph with
  | .idle => .next b
  | .req => .next (reqTick p b)
  | .cap => capTick p line b
  | .dec => .next (decTick b)

end Sys2Proof.Machine
end

