-- ==== Sys2Proof/Machine/Tick.lean ====
section
/-! DEFINITION. The rest of a tick around the presented operation: the step rule of the phase, the outputs shown,
the inputs used up; and the reset tick (R13, R129, R137). -/

namespace Sys2Proof.Machine

/-- The inputs of the next tick come up, and the time advances (R13). -/
def State.advance (s : State) : State :=
  { s with hostQ := s.hostQ.tail, lineQ := s.lineQ.tail, tick := s.tick + 1 }

/-- The tick `s` ends with the block `b`; `s'` is `s` with the operation's effect, its response included. The
outputs `line_drive_low` and `busy` of the tick are those of `s` (R34). -/
def closeTick (s s' : State) (b : Block) : State :=
  { s'.advance with
    blk := b
    out := { s'.out with lineDriveLow := s.lineDriveLow, busy := s.busy } }

/-- The step rule of the phase the tick began in acts beside the operation (R129 (2); log entry 14). The two never conflict:
a query and a reserved word leave the block as it was, and `poll()` is accepted only in IDLE, which has no rule of
its own. -/
def endTick (s s' : State) : Host.Outcome State Fault Refusal :=
  match phaseTick s.blk.phase s.params s.lineIn s'.blk with
  | .next b => .next (closeTick s s' b)
  | .fault f => .fault f
  | .refused r => .refused r

/-- A tick with `rst = 1`: the next block is the reset block whatever the phase and whatever is presented; the
outputs of the tick are still those of `S_t` (R129 (1), R137). The parameters are not state and stay (R14). -/
def resetTick (s : State) : State := { s.advance with blk := Block.reset, out := s.outputs }

/-- The command word presented in this tick, if one is (R35, R56). -/
def State.presented (s : State) : Option CmdWord :=
  if s.host.cmdValid then some s.host.cmdOp else none

/-- `s` with the command word `w` presented in this tick, and `rst = 0`; all else as in `s`. -/
def State.present (s : State) (w : CmdWord) : State :=
  { s with hostQ := ⟨false, true, w⟩ :: s.hostQ.tail }

end Sys2Proof.Machine
end

