-- ==== Sys2Proof/Machine/Step.lean ====
section
/-! DEFINITION. One step is one tick (R13): reset first, else the presented operation together with the step rule
of the phase (R129). -/

namespace Sys2Proof.Machine

/-- `Step(S_t, in_t)` with the outputs of the tick kept in `out` (R13, R129). -/
def step (s : State) : Host.Outcome State Fault Refusal :=
  if s.host.rst then .next (resetTick s)
  else
    match s.presented with
    | none => endTick s s.noCommand
    | some w =>
      match decodeWord w with
      | .error _ => endTick s s.illegalCommand
      | .ok i =>
        match exec i s with
        | .next s' => endTick s s'
        | .fault f => .fault f
        | .refused r => .refused r

/-- `s` with the command word `w` (a number of at most 5 bits, R56) on the host's ports in this tick, so that the
next step decodes and runs it. The block fetches nothing (R38): an operation comes from the host (log entry 6). -/
def State.withFetchWord (s : State) (_nbits w : Nat) : State := s.present (BitVec.ofNat 5 w)

end Sys2Proof.Machine
end

