-- ==== Sys2Proof/Safety.lean ====
section
/-! DEFINITION. What claims about the machine speak of: runs of several ticks, the host's discipline (R72, R142), the
invariant of the reachable states (R11, R16, R28 to R32, R121, R123), and the controller's waveform (R63, R86, R145). -/

namespace Sys2Proof.Machine

/-! ### Runs -/

/-- `n` ticks, stopping at the first fault or refusal. -/
def runTicks : Nat → State → Host.Outcome State Fault Refusal
  | 0, s => .next s
  | n + 1, s =>
    match step s with
    | .next t => runTicks n t
    | .fault f => .fault f
    | .refused r => .refused r

/-- The state at the end of a tick that leaves the block `b`: the inputs of the tick used up, its outputs kept. -/
def State.after (s : State) (b : Block) : State where
  params := s.params
  blk := b
  hostQ := s.hostQ.tail
  lineQ := s.lineQ.tail
  tick := s.tick + 1
  out := s.outputs

/-- The state in which an operation has answered `v` with `rsp_err = 0` and changed nothing else (R61). -/
def State.answered (s : State) (v : Byte) : State :=
  { s with out := { s.out with rspData := v, rspErr := false } }

/-- The level of the line `k` ticks from now (R46, R48). -/
def State.lineAt (s : State) (k : Nat) : Bool := s.lineQ.getD k (Config.freeLine (s.tick + k))

/-- The same machine with a clock of another period (R6). -/
def State.withTickNs (s : State) (q : Rat) : State := { s with params := { s.params with tickNs := q } }

/-- The same machine with another `data2` (R25). -/
def State.withData2 (s : State) (v : Byte) : State :=
  { s with blk := { s.blk with snap := { s.blk.snap with data2 := v } } }

/-- The same tick with nothing presented and no reset. -/
def State.silenced (s : State) : State := { s with hostQ := HostPort.silent :: s.hostQ.tail }

/-! ### What a predicate answers -/

/-- Word `w` is the predicate `i`: in every state it answers `0x01` if `mask` meets the byte and `0x00` if not, with
`rsp_err = 0`, and changes nothing else; and in a run from a block just reset in which no poll has ended with Success
it answers `0x00` (R96 to R109). -/
def predicateAnswers (w : CmdWord) (i : Instr) (byte : Snapshot → Byte) (mask : Byte) : Prop :=
  decodeWord w = .ok i ∧
    (∀ s : State, exec i s = .next (s.answered (if byte s.blk.snap &&& mask ≠ 0#8 then 0x01#8 else 0x00#8))) ∧
    ∀ (n : Nat) (s t : State), s.blk = Block.reset → runTicks n s = .next t →
      (∀ k u, k ≤ n → runTicks k s = .next u → u.blk.result ≠ .success) → exec i t = .next (t.answered 0x00#8)

/-! ### The host's discipline -/

/-- The host presents `poll()` (word `0x10`). -/
def HostPort.presentsPoll (p : HostPort) : Bool := p.cmdValid && p.cmdOp == 0x10#5

/-- The host neither resets the block nor presents `poll()`: a query, a reserved word or nothing. -/
def HostPort.calm (p : HostPort) : Bool := !p.rst && !p.presentsPoll

/-- In this tick the host presents `poll()`, and after it stays calm. -/
def State.pollsOnce (s : State) : Bool :=
  !s.host.rst && s.host.presentsPoll && s.hostQ.tail.all HostPort.calm

/-- The host is calm in every tick that `s` lists (past the list it presents nothing). -/
def State.calm (s : State) : Bool := s.hostQ.all HostPort.calm

/-! ### The invariant -/

/-- Every slot holds `0x00` or `0x01` (R16). -/
def Block.slotsBinary (b : Block) : Bool := b.raw.toList.all fun v => v == 0x00#8 || v == 0x01#8

/-- The slots from `bitIdx` on hold `0x00`: the capture has not reached them (R73, R120). -/
def Block.restZero (b : Block) : Bool := (b.raw.toList.drop b.bitIdx).all fun v => v == 0x00#8

/-- The bounds that R11 and R28 to R31 give the counters in every phase. -/
def Block.countersBounded (p : Params) (b : Block) : Bool :=
  decide (b.reqPos < nReq p) && decide (b.bitIdx ≤ 33) && decide (b.timer ≤ max p.tSample (p.tTimeout - 1))

/-- What the sub-phase says of the counters while a cell is captured (R28, R30, R31). -/
def Block.cellCounters (p : Params) (b : Block) : Bool :=
  match b.sub with
  | .waitLow => decide (b.bitIdx ≤ 32) && decide (b.timer < p.tTimeout)
  | .delay => decide (b.bitIdx ≤ 32) && decide (1 ≤ b.timer) && decide (b.timer ≤ p.tSample)
  | .waitHigh => decide (1 ≤ b.bitIdx) && decide (b.timer < p.tTimeout)

/-- What the phase says of the rest of the block: in REQ the slots are clear (R73); in CAP the cell's counters hold
and the slots not yet reached are clear; in DEC the slots not reached are clear, and with `HARDENED = 1` all 33
cells have been sampled (R50, R120). -/
def Block.phaseFacts (p : Params) (b : Block) : Bool :=
  match b.phase with
  | .idle => true
  | .req => b.raw == Vector.replicate 33 0x00#8
  | .cap => b.cellCounters p && b.restZero
  | .dec => b.restZero && (!p.hardened || decide (b.bitIdx = 33))

/-- The codes `result` can hold: never ChecksumMismatch (R123), and Timeout only with `HARDENED = 1` (R121). -/
def Block.resultLegal (p : Params) (b : Block) : Bool :=
  match b.result with
  | .success => true
  | .timeout => p.hardened
  | .checksumMismatch => false
  | .notPolled => true

/-- The invariant of the machine: legal parameters (R6 to R9) and a block in which every field is as the rules say
it always is. -/
def State.inv (s : State) : Bool :=
  s.params.wellFormed && s.blk.slotsBinary && s.blk.countersBounded s.params && s.blk.phaseFacts s.params
    && s.blk.resultLegal s.params

/-! ### The bound of a poll -/

/-- The most ticks one cell can cost with `HARDENED = 1` (R151). -/
def cellBound (p : Params) : Nat := 2 * p.tTimeout + p.tSample

/-- The most ticks a poll keeps `busy = 1` with `HARDENED = 1` (R151). -/
def pollBound (p : Params) : Nat := nReq p + 33 * cellBound p + 1

/-! ### The controller -/

/-- One bit cell on the wire: the line low for `low` ticks, then high for `high` ticks (R63). -/
structure CellWave where
  low : Nat
  high : Nat
deriving DecidableEq, Repr

/-- The line's levels during a cell. -/
def CellWave.levels (c : CellWave) : List Bool := List.replicate c.low false ++ List.replicate c.high true

/-- The bit a cell's low pulse stands for: 1 if it is at most `T_SAMPLE` ticks long, else 0 (R86). -/
def CellWave.bit (p : Params) (c : CellWave) : Bool := decide (c.low ≤ p.tSample)

/-- The offset, from the cell's start, of the WAIT_HIGH tick that sees the line high (R151): the tick after the
sample, or the first high tick if the low pulse is longer. -/
def CellWave.seenHigh (p : Params) (c : CellWave) : Nat := max (p.tSample + 1) c.low

/-- A cell the sampler reads as sent (R145, R146): a low pulse, whose end is seen within the window of WAIT_HIGH,
and a high level in the tick that looks for it. -/
def CellWave.wellTimed (p : Params) (c : CellWave) : Bool :=
  decide (1 ≤ c.low) && decide (c.low ≤ p.tSample + p.tTimeout) && decide (c.seenHigh p < c.low + c.high)

/-- The high ticks that WAIT_LOW sees between this cell and the next are fewer than its window (R82). -/
def CellWave.gapInWindow (p : Params) (c : CellWave) : Bool :=
  decide (c.low + c.high - (c.seenHigh p + 1) < p.tTimeout)

/-- The line's levels during a response: high for `gap` ticks, then the cells one after another (R64). -/
def frameLevels (gap : Nat) (cells : List CellWave) : List Bool :=
  List.replicate gap true ++ cells.flatMap CellWave.levels

end Sys2Proof.Machine
end

