-- ==== Sys2Proof/Certificates/Slice0/Obligations.lean ====
section
/-! DEFINITION. The statements for the provers. -/

open Sys2Proof Sys2Proof.Machine

/-! ### The command word -/

/-- Decoding the word of an operation gives the operation back (30_encoding.md section 1). -/
def Obligations.DecodeOfEncodeIsTheOperation : Prop :=
  ∀ i : Instr, decodeWord (encode i) = .ok i

/-- Each command word has one meaning: a word that decodes to `i` is the word of `i` (30_encoding.md section 1). -/
def Obligations.DecodedWordIsTheEncodingOfItsOperation : Prop :=
  ∀ (w : CmdWord) (i : Instr), decodeWord w = .ok i → encode i = w

/-- The decoder refuses exactly the 14 reserved words (30_encoding.md section 2). -/
def Obligations.ReservedWordsAreTheFourteenListed : Prop :=
  ∀ w : CmdWord, (∃ e, decodeWord w = .error e) ↔ (w = 0x0E#5 ∨ w = 0x0F#5 ∨ 0x14 ≤ w.toNat)

/-- Words written out bit by bit from the formats Q and C decode to their operations (30_encoding.md section 1). -/
def Obligations.WrittenWordsDecode : Prop :=
  decodeWord 0b00100#5 = .ok .startDown ∧ decodeWord 0b00111#5 = .ok .aDown
    ∧ decodeWord 0b01000#5 = .ok .cRightDown ∧ decodeWord 0b01101#5 = .ok .lBumperDown
    ∧ decodeWord 0b10000#5 = .ok .poll ∧ decodeWord 0b10010#5 = .ok .stickY
    ∧ decodeWord 0b10011#5 = .ok .pollResult

/-- A step runs the decoded operation: with no reset, and with a word presented that decodes to `i`, the step is
`exec i`, after which the step rule of the phase acts on the block, the outputs `line_drive_low` and `busy` of this tick
are kept and the inputs of this tick are used up; a fault or a refusal passes through. The order, `exec` first and then
the step rule, is the model's own reading (log entry 14): the spec says that in one tick "the phase's step rule and the
presented operation both act, and they never conflict" (60_exceptions.md section 5). The kept outputs are the model's own
too (log entry 5). -/
def Obligations.StepRunsTheDecodedOperation : Prop :=
  ∀ (s : State) (w : CmdWord) (i : Instr),
    s.host.rst = false → s.host.cmdValid = true → s.host.cmdOp = w → decodeWord w = .ok i →
    (∀ s' b, exec i s = .next s' → phaseTick s.blk.phase s.params s.lineIn s'.blk = .next b →
      step s = .next
        { s' with
          blk := b
          hostQ := s'.hostQ.tail
          lineQ := s'.lineQ.tail
          tick := s'.tick + 1
          out := { s'.out with lineDriveLow := s.lineDriveLow, busy := s.busy } })
    ∧ (∀ s' f, exec i s = .next s' → phaseTick s.blk.phase s.params s.lineIn s'.blk = .fault f → step s = .fault f)
    ∧ (∀ r, exec i s = .refused r → step s = .refused r)

/-! ### The operations -/

/-- R96 to R103. The eight predicates of `data1` answer their bit, by the masks of the rules; every state answers, and
nothing but the response changes. -/
def Obligations.Data1PredicatesAnswerTheirBit : Prop :=
  predicateAnswers 0x00#5 .dRightDown Snapshot.data1 0x01#8
    ∧ predicateAnswers 0x01#5 .dLeftDown Snapshot.data1 0x02#8
    ∧ predicateAnswers 0x02#5 .dDownDown Snapshot.data1 0x04#8
    ∧ predicateAnswers 0x03#5 .dUpDown Snapshot.data1 0x08#8
    ∧ predicateAnswers 0x04#5 .startDown Snapshot.data1 0x10#8
    ∧ predicateAnswers 0x05#5 .zDown Snapshot.data1 0x20#8
    ∧ predicateAnswers 0x06#5 .bDown Snapshot.data1 0x40#8
    ∧ predicateAnswers 0x07#5 .aDown Snapshot.data1 0x80#8

/-- R104 to R109. The six predicates of `data2` answer their bit, by the masks of the rules; every state answers, and
nothing but the response changes. -/
def Obligations.Data2PredicatesAnswerTheirBit : Prop :=
  predicateAnswers 0x08#5 .cRightDown Snapshot.data2 0x01#8
    ∧ predicateAnswers 0x09#5 .cLeftDown Snapshot.data2 0x02#8
    ∧ predicateAnswers 0x0A#5 .cDownDown Snapshot.data2 0x04#8
    ∧ predicateAnswers 0x0B#5 .cUpDown Snapshot.data2 0x08#8
    ∧ predicateAnswers 0x0C#5 .rBumperDown Snapshot.data2 0x10#8
    ∧ predicateAnswers 0x0D#5 .lBumperDown Snapshot.data2 0x20#8

/-- R110 and R111. The axis reads answer the stored patterns and change nothing else; read as two's complement the
answer is in -128 to 127. -/
def Obligations.AxisReadsAnswerTheStoredPattern : Prop :=
  decodeWord 0x11#5 = .ok .stickX ∧ decodeWord 0x12#5 = .ok .stickY ∧
    (∀ s : State,
      exec .stickX s = .next (s.answered s.blk.snap.stickX)
        ∧ exec .stickY s = .next (s.answered s.blk.snap.stickY)) ∧
    ∀ v : Byte, sext8ToInt v = v.toInt ∧ -128 ≤ sext8ToInt v ∧ sext8ToInt v ≤ 127

/-- R112. `pollResult()` answers the code of `result`, zero extended, in every phase, and changes nothing, `result`
included. -/
def Obligations.PollResultAnswersTheCode : Prop :=
  decodeWord 0x13#5 = .ok .pollResult ∧
    ∀ s : State, exec .pollResult s = .next (s.answered (match s.blk.result with
      | .success => 0x00#8
      | .timeout => 0x01#8
      | .checksumMismatch => 0x02#8
      | .notPolled => 0x03#8))

/-- `poll()` in IDLE is accepted: the 33 slots are cleared, `phase <- REQ`, `req_pos <- 0`, the response is `0x00`
with `rsp_err = 0`, and every other field keeps its value (40_poll_request.md section 1). -/
def Obligations.PollIsAcceptedInIdle : Prop :=
  decodeWord 0x10#5 = .ok .poll ∧
    ∀ s : State, s.blk.phase = .idle →
      exec .poll s = .next
        ({ s with blk := { s.blk with raw := Vector.replicate 33 0x00#8, phase := .req, reqPos := 0 } }.answered 0x00#8)

/-- R72. `poll()` presented while the block is busy has no next state: `exec` and, unless reset wins, the step refuse
it by name. -/
def Obligations.PollWhileBusyIsRefused : Prop :=
  ∀ s : State, s.blk.phase ≠ .idle →
    exec .poll s = .refused .pollWhileBusy ∧
      (s.host.rst = false → s.host.presentsPoll = true → step s = .refused .pollWhileBusy)

/-- A query presented in any phase answers what it reads in `S_t`, and the rest of the next state is that of the same
tick with nothing presented (43_query.md sections 1 and 5). -/
def Obligations.QueryTickOnlyAddsTheAnswer : Prop :=
  ∀ (s u : State) (i : Instr), i ≠ .poll → step s.silenced = .next u →
    ∃ v, exec i s = .next (s.answered v) ∧
      step (s.present (encode i)) = .next { u with out := { u.out with rspData := v, rspErr := false } }

/-- R125. A reserved word gives `rsp_err = 1` and `rsp_data = 0x00` in its tick, and the rest of the next state is
that of the same tick with nothing presented. -/
def Obligations.ReservedWordOnlyRaisesRspErr : Prop :=
  ∀ (s u : State) (w : CmdWord), w = 0x0E#5 ∨ w = 0x0F#5 ∨ 0x14 ≤ w.toNat → step s.silenced = .next u →
    step (s.present w) = .next { u with out := { u.out with rspData := 0x00#8, rspErr := true } }

/-- Every tick that has a next state shows the outputs of the output table, as a function of `S_t` and of the tick's
inputs, and uses up one tick of the inputs (10_state.md section 6, 30_encoding.md section 3). -/
def Obligations.StepShowsTheOutputsOfTheTick : Prop :=
  ∀ s t : State, step s = .next t →
    t.out = s.outputs ∧ t.hostQ = s.hostQ.tail ∧ t.lineQ = s.lineQ.tail ∧ t.tick = s.tick + 1

/-! ### One tick of each phase -/

/-- R70. The step of phase IDLE. -/
def Obligations.IdleTickAcceptsPollOrChangesNothing : Prop :=
  ∀ s : State, s.host.rst = false → s.blk.phase = .idle →
    s.lineDriveLow = false ∧
      step s = .next (s.after
        (if s.host.presentsPoll then
          { s.blk with raw := Vector.replicate 33 0x00#8, phase := .req, reqPos := 0 }
        else s.blk))

/-- R74. The step of phase REQ, whatever is presented (but `poll()`) and whatever the line does; and its duration:
after a `poll()` accepted at tick `t`, REQ is ticks `t + 1` to `t + N_REQ` and CAP begins at `t + N_REQ + 1`. -/
def Obligations.RequestPhaseLastsNReqTicks : Prop :=
  (∀ s : State, s.host.calm = true → s.blk.phase = .req →
    step s = .next (s.after
      (if s.blk.reqPos + 1 = nReq s.params then
        { s.blk with phase := .cap, sub := .waitLow, bitIdx := 0, timer := 0 }
      else { s.blk with reqPos := s.blk.reqPos + 1 }))) ∧
  ∀ s : State, s.params.wellFormed = true → s.blk.phase = .idle → s.pollsOnce = true →
    (∀ k, k < nReq s.params → ∃ t, runTicks (k + 1) s = .next t ∧
      t.blk = { s.blk with raw := Vector.replicate 33 0x00#8, phase := .req, reqPos := k }) ∧
    ∃ t, runTicks (nReq s.params + 1) s = .next t ∧
      t.blk = { s.blk with
        raw := Vector.replicate 33 0x00#8
        phase := .cap, sub := .waitLow, reqPos := nReq s.params - 1, bitIdx := 0, timer := 0 }

/-- R80. The step of WAIT_LOW, the line's level before the timeout. -/
def Obligations.WaitLowTickStartsTheCellOrCounts : Prop :=
  ∀ s : State, s.host.calm = true → s.blk.phase = .cap → s.blk.sub = .waitLow →
    step s = .next (s.after
      (if s.lineIn = false then { s.blk with sub := .delay, timer := 1 }
      else if s.blk.timer + 1 = s.params.tTimeout then
        (if s.params.hardened then { s.blk with result := .timeout, phase := .idle } else { s.blk with phase := .dec })
      else { s.blk with timer := s.blk.timer + 1 }))

/-- R81 and R85. The step of DELAY, and the sample: exactly the level of the line `T_SAMPLE` ticks after the start of
the cell goes into slot `bit_idx`, whatever the line did between. -/
def Obligations.DelaySamplesTheLineAtTSample : Prop :=
  (∀ s : State, s.host.calm = true → s.blk.phase = .cap → s.blk.sub = .delay → s.blk.bitIdx ≤ 32 →
    step s = .next (s.after
      (if s.blk.timer = s.params.tSample then
        { s.blk with
          raw := s.blk.raw.setIfInBounds s.blk.bitIdx (if s.lineIn then 0x01#8 else 0x00#8)
          bitIdx := s.blk.bitIdx + 1, sub := .waitHigh, timer := 0 }
      else { s.blk with timer := s.blk.timer + 1 }))) ∧
  ∀ s : State, s.calm = true → s.blk.phase = .cap → s.blk.sub = .delay → s.blk.bitIdx ≤ 32 →
    s.blk.timer ≤ s.params.tSample →
    (∀ k, k ≤ s.params.tSample - s.blk.timer →
      ∃ t, runTicks k s = .next t ∧ t.blk = { s.blk with timer := s.blk.timer + k }) ∧
    ∃ t, runTicks (s.params.tSample - s.blk.timer + 1) s = .next t ∧
      t.blk = { s.blk with
        raw := s.blk.raw.setIfInBounds s.blk.bitIdx
          (if s.lineAt (s.params.tSample - s.blk.timer) then 0x01#8 else 0x00#8)
        bitIdx := s.blk.bitIdx + 1, sub := .waitHigh, timer := 0 }

/-- The model's choice (log entry 8): a sample into a slot index above 32, which no reachable state asks for, stops
with the fault of its own name. -/
def Obligations.SampleAboveTheSlotSpaceFaults : Prop :=
  ∀ s : State, s.host.calm = true → s.blk.phase = .cap → s.blk.sub = .delay →
    s.blk.timer = s.params.tSample → 32 < s.blk.bitIdx → step s = .fault (.noSuchSlot s.blk.bitIdx)

/-- R83. The step of WAIT_HIGH, the line's level before the timeout. -/
def Obligations.WaitHighTickEndsTheCellOrWaits : Prop :=
  ∀ s : State, s.host.calm = true → s.blk.phase = .cap → s.blk.sub = .waitHigh →
    step s = .next (s.after
      (if s.lineIn then
        (if s.blk.bitIdx = 33 then { s.blk with phase := .dec } else { s.blk with sub := .waitLow, timer := 0 })
      else if s.params.hardened then
        (if s.blk.timer + 1 = s.params.tTimeout then { s.blk with result := .timeout, phase := .idle }
        else { s.blk with timer := s.blk.timer + 1 })
      else s.blk))

/-- R89. The step of phase DEC: the four fields, `result` and `phase` at one tick boundary, the rest kept. -/
def Obligations.DecodeTickWritesTheWholeSnapshot : Prop :=
  ∀ s : State, s.host.calm = true → s.blk.phase = .dec →
    step s = .next (s.after
      { s.blk with
        snap := ⟨pack8 s.blk.raw 0, pack8 s.blk.raw 8, pack8 s.blk.raw 16, pack8 s.blk.raw 24⟩
        result := .success
        phase := .idle })

/-- R137. A tick with `rst = 1`, whatever the phase and whatever is presented. -/
def Obligations.ResetTickGivesTheResetBlock : Prop :=
  ∀ s : State, s.host.rst = true →
    ∃ t, step s = .next t ∧ t = s.after t.blk ∧
      t.blk.raw = Vector.replicate 33 0x00#8 ∧ t.blk.snap = ⟨0x00#8, 0x00#8, 0x00#8, 0x00#8⟩ ∧
      t.blk.phase = .idle ∧ t.blk.sub = .waitLow ∧ t.blk.reqPos = 0 ∧ t.blk.bitIdx = 0 ∧ t.blk.timer = 0 ∧
      t.blk.result = .notPolled ∧ t.lineDriveLow = false ∧ t.busy = false

/-! ### Reset -/

/-- R37. The values after reset, with the codes of the sequencer fields and of `result`, and the two outputs. -/
def Obligations.ResetStateHoldsTheListedValues : Prop :=
  let b := State.reset.blk
  (∀ (i : Nat) (h : i < 33), b.raw[i] = 0x00#8) ∧
    b.snap.data1 = 0x00#8 ∧ b.snap.data2 = 0x00#8 ∧ b.snap.stickX = 0x00#8 ∧ b.snap.stickY = 0x00#8 ∧
    b.phase.code = 0#2 ∧ b.sub.code = 0#2 ∧ b.reqPos = 0 ∧ b.bitIdx = 0 ∧ b.timer = 0 ∧ b.result.code = 3#2 ∧
    State.reset.lineDriveLow = false ∧ State.reset.busy = false

/-- After reset every predicate and both axes answer `0x00` and `pollResult()` answers `0x03`; the snapshot is the one
the all-zero buffer decodes to (70_reset_and_hazards.md section 1; the spec derives it: "After reset the queries
return the neutral snapshot"). -/
def Obligations.QueriesAfterResetAreNeutral : Prop :=
  (∀ (s : State) (i : Instr), s.blk = Block.reset → i ≠ .poll →
    exec i s = .next (s.answered (if i = .pollResult then 0x03#8 else 0x00#8))) ∧
  packSnapshot (Vector.replicate 33 0x00#8) = Block.reset.snap

/-! ### The request on the line -/

/-- R75. During the `k`-th tick of an accepted poll's request, `line_drive_low = REQ_WAVE[k]` and `req_pos = k`. -/
def Obligations.RequestDrivesTheWave : Prop :=
  ∀ s : State, s.params.wellFormed = true → s.blk.phase = .idle → s.pollsOnce = true →
    ∀ k, k < nReq s.params → ∃ t, runTicks (k + 1) s = .next t ∧
      t.blk.phase = .req ∧ t.blk.reqPos = k ∧ (reqWave s.params)[k]? = some t.lineDriveLow

/-- The request ends with the line released, and it has at least two ticks, the first of which pulls low (00_scope.md
section 3). -/
def Obligations.RequestWaveEndsReleased : Prop :=
  ∀ p : Params, p.wellFormed = true →
    (reqWave p).getLast? = some false ∧ (reqWave p).head? = some true ∧ 2 ≤ nReq p ∧
      nReq p = (p.reqPulses.map fun q => q.low + q.high).sum

/-- R76. The block pulls the line low in phase REQ only, never in the last tick of REQ, and reads the line in phase
CAP only. -/
def Obligations.LineReleasedBeforeSampling : Prop :=
  (∀ s : State, s.blk.phase ≠ .req → s.lineDriveLow = false) ∧
  (∀ s : State, s.params.wellFormed = true → s.blk.reqPos + 1 = nReq s.params → s.lineDriveLow = false) ∧
  ∀ (s : State) (level : Bool), s.blk.phase ≠ .cap → step { s with lineQ := level :: s.lineQ.tail } = step s

/-! ### The capture over several ticks -/

/-- R82. The WAIT_LOW timeout fires in the `T_TIMEOUT`-th tick of high line, in both modes, and writes no slot. -/
def Obligations.WaitLowTimesOutAtTheWindow : Prop :=
  ∀ s : State, s.inv = true → s.calm = true → s.blk.phase = .cap → s.blk.sub = .waitLow → s.blk.timer = 0 →
    (∀ k, k < s.params.tTimeout → s.lineAt k = true) →
    (∀ k, k < s.params.tTimeout → ∃ t, runTicks k s = .next t ∧ t.blk = { s.blk with timer := k }) ∧
    ∃ t, runTicks s.params.tTimeout s = .next t ∧ t.blk.restZero = true ∧
      t.blk = (if s.params.hardened then
          { s.blk with timer := s.params.tTimeout - 1, result := .timeout, phase := .idle }
        else { s.blk with timer := s.params.tTimeout - 1, phase := .dec })

/-- R84. The line held low in WAIT_HIGH: with `HARDENED = 0` the state of the block does not change for as long as it
lasts; with `HARDENED = 1` the timeout fires in the `T_TIMEOUT`-th low tick, without a decode and without a slot
written. -/
def Obligations.LineHeldLowHangsOrTimesOut : Prop :=
  (∀ (s : State) (n : Nat), s.params.hardened = false → s.calm = true → s.blk.phase = .cap →
    s.blk.sub = .waitHigh → (∀ k, k < n → s.lineAt k = false) →
    ∃ t, runTicks n s = .next t ∧ t.blk = s.blk ∧ t.busy = true) ∧
  ∀ s : State, s.params.wellFormed = true → s.params.hardened = true → s.calm = true → s.blk.phase = .cap →
    s.blk.sub = .waitHigh → s.blk.timer = 0 → (∀ k, k < s.params.tTimeout → s.lineAt k = false) →
    (∀ k, k < s.params.tTimeout → ∃ t, runTicks k s = .next t ∧ t.blk = { s.blk with timer := k }) ∧
    ∃ t, runTicks s.params.tTimeout s = .next t ∧
      t.blk = { s.blk with timer := s.params.tTimeout - 1, result := .timeout, phase := .idle }

/-- The hang (60_exceptions.md section 3) with `HARDENED = 0`: while the line stays low in WAIT_HIGH, the block stays
as it is and busy, every `poll()` is a PollWhileBusy, and a reset is the way out. -/
def Obligations.LegacyHangEndsOnlyByReset : Prop :=
  ∀ (s t : State) (n : Nat), s.params.hardened = false → s.blk.phase = .cap → s.blk.sub = .waitHigh →
    (∀ k, k ≤ n → s.lineAt k = false) → (∀ p ∈ s.hostQ.take n, p.rst = false) → runTicks n s = .next t →
    t.blk = s.blk ∧ t.busy = true ∧
      (t.host.rst = true → step t = .next (t.after Block.reset)) ∧
      (t.host.rst = false → t.host.presentsPoll = true → step t = .refused .pollWhileBusy) ∧
      (t.host.rst = false → t.host.presentsPoll = false → step t = .next (t.after t.blk))

/-- The pulse-width view: a low pulse of `W` ticks from the detected start, and high until the sample, is a 1 if `W <=
T_SAMPLE` and a 0 if `W > T_SAMPLE` (41_capture.md section 3; the spec derives it: "a short low pulse is a 1, a long
one is a 0"). -/
def Obligations.PulseWidthDecidesTheBit : Prop :=
  ∀ (s : State) (W : Nat), s.params.wellFormed = true → s.calm = true → s.blk.phase = .cap →
    s.blk.sub = .waitLow → s.blk.bitIdx ≤ 32 → 1 ≤ W → (∀ k, k < W → s.lineAt k = false) →
    (∀ k, W ≤ k → k ≤ s.params.tSample → s.lineAt k = true) →
    ∃ t, runTicks (s.params.tSample + 1) s = .next t ∧
      t.blk = { s.blk with
        raw := s.blk.raw.setIfInBounds s.blk.bitIdx (if W ≤ s.params.tSample then 0x01#8 else 0x00#8)
        bitIdx := s.blk.bitIdx + 1, sub := .waitHigh, timer := 0 }

/-- A whole poll to which the controller never answers (70_reset_and_hazards.md section 4, whose tick counts the spec
derives, and 60_exceptions.md section 3): `busy = 1` for `N_REQ + T_TIMEOUT` ticks, then Timeout with the snapshot
untouched (`HARDENED = 1`); or one tick more, then Success with the all-zero snapshot (`HARDENED = 0`). -/
def Obligations.SilentControllerEndsThePoll : Prop :=
  ∀ s : State, s.params.wellFormed = true → s.blk.phase = .idle → s.pollsOnce = true →
    (∀ k, nReq s.params < k → k ≤ nReq s.params + s.params.tTimeout → s.lineAt k = true) →
    let n := nReq s.params + s.params.tTimeout + (if s.params.hardened then 0 else 1)
    (∀ k, 1 ≤ k → k ≤ n → ∃ u, runTicks k s = .next u ∧ u.busy = true) ∧
    ∃ t, runTicks (n + 1) s = .next t ∧
      t.blk = { s.blk with
        raw := Vector.replicate 33 0x00#8
        snap := if s.params.hardened then s.blk.snap else ⟨0x00#8, 0x00#8, 0x00#8, 0x00#8⟩
        sub := .waitLow
        reqPos := nReq s.params - 1
        bitIdx := 0
        timer := s.params.tTimeout - 1
        result := if s.params.hardened then .timeout else .success }

/-- A whole poll answered by a well-timed frame: from the accept, 33 cells whose low pulses, gaps and ends stay within
the windows are captured bit by bit as the widths of their low pulses say, the snapshot is the one the frame encodes,
the result is Success, and the poll is busy for exactly the ticks of the tick formula (70_reset_and_hazards.md
sections 3 and 4, 41_capture.md section 3, 42_decode.md section 3; the spec derives the timing conditions and the tick
formula from its step rules). -/
def Obligations.WellTimedFrameIsReceived : Prop :=
  ∀ (s : State) (before rest : List Bool) (gap : Nat) (cells : List CellWave) (sn : Snapshot)
    (hlen : cells.length = 33),
    s.params.wellFormed = true → s.blk.phase = .idle → s.pollsOnce = true →
    before.length = 1 + nReq s.params → s.lineQ = before ++ (frameLevels gap cells ++ rest) →
    gap < s.params.tTimeout → (∀ c ∈ cells, c.wellTimed s.params = true) →
    (∀ c ∈ cells.take 32, c.gapInWindow s.params = true) →
    (∀ i : Fin 32, (cells[i.val]'(by omega)).bit s.params = frameBit sn i) →
    let busyTicks := nReq s.params + gap + ((cells.take 32).map fun c => c.low + c.high).sum
      + ((cells[32]'(by omega)).seenHigh s.params + 1) + 1
    (∀ k, 1 ≤ k → k ≤ busyTicks → ∃ u, runTicks k s = .next u ∧ u.busy = true) ∧
    ∃ t, runTicks (busyTicks + 1) s = .next t ∧
      t.blk.phase = .idle ∧ t.blk.result = .success ∧ t.blk.snap = sn ∧
      ∀ (i : Nat) (h : i < 33),
        t.blk.raw[i] = (if (cells[i]'(by omega)).bit s.params then 0x01#8 else 0x00#8)

/-! ### The decode -/

/-- R90. `pack8(raw, k)`: bit `7 - j` is bit 0 of slot `k + j`, and over slots that hold 0 or 1 the byte is the
weighted sum of the slot values. -/
def Obligations.Pack8IsMostSignificantBitFirst : Prop :=
  ∀ (raw : Vector Byte 33) (k : Nat) (hk : k + 8 ≤ 33),
    (∀ (j : Nat) (hj : j < 8), (pack8 raw k).getLsbD (7 - j) = raw[k + j].getLsbD 0) ∧
    ((∀ (i : Nat) (hi : i < 33), raw[i] = 0x00#8 ∨ raw[i] = 0x01#8) →
      (pack8 raw k).toNat = raw[k].toNat * 128 + raw[k + 1].toNat * 64 + raw[k + 2].toNat * 32
        + raw[k + 3].toNat * 16 + raw[k + 4].toNat * 8 + raw[k + 5].toNat * 4 + raw[k + 6].toNat * 2
        + raw[k + 7].toNat)

/-- The slot map: slot `i` goes to bit `7 - (i mod 8)` of field `i div 8` (20_memory.md section 2; the spec derives
the map). -/
def Obligations.SlotFeedsItsSnapshotBit : Prop :=
  ∀ (raw : Vector Byte 33) (i : Fin 32),
    ((packSnapshot raw).field ⟨i.val / 8, by omega⟩).getLsbD (7 - i.val % 8) = (raw[i.val]'(by omega)).getLsbD 0

/-- R92. The stop slot has no effect on the snapshot or on `result`. -/
def Obligations.StopSlotIsNotDecoded : Prop :=
  ∀ (s : State) (v : Byte), s.host.calm = true → s.blk.phase = .dec →
    ∃ t u, step s = .next t ∧ step { s with blk := { s.blk with raw := s.blk.raw.set 32 v } } = .next u ∧
      u.blk.snap = t.blk.snap ∧ u.blk.result = t.blk.result

/-- The round trip: decoding the slots that encode a snapshot gives the snapshot back, and encoding what any 32 slots
of 0 and 1 decode to gives the slots back (42_decode.md section 3; the spec derives it: "the decode is a bijection
between the 32 slot values and the snapshot"). -/
def Obligations.DecodeIsABijection : Prop :=
  (∀ (sn : Snapshot) (raw : Vector Byte 33),
    (∀ i : Fin 32, raw[i.val]'(by omega) = if frameBit sn i then 0x01#8 else 0x00#8) → packSnapshot raw = sn) ∧
  ∀ raw : Vector Byte 33,
    (∀ i : Fin 32, raw[i.val]'(by omega) = 0x00#8 ∨ raw[i.val]'(by omega) = 0x01#8) →
    ∀ i : Fin 32, raw[i.val]'(by omega) = if frameBit (packSnapshot raw) i then 0x01#8 else 0x00#8

/-- The zero buffer: a decode tick over slots 0 to 31 all `0x00` gives a snapshot for which every predicate answers
`0x00` and both axes read `0x00`; `pollResult()` answers `0x00` too, Success (42_decode.md section 3). -/
def Obligations.ZeroBufferReadsNeutral : Prop :=
  ∀ s : State, s.host.calm = true → s.blk.phase = .dec →
    (∀ i : Fin 32, s.blk.raw[i.val]'(by omega) = 0x00#8) →
    ∃ t, step s = .next t ∧ t.blk.snap = ⟨0x00#8, 0x00#8, 0x00#8, 0x00#8⟩ ∧
      ∀ i : Instr, i ≠ .poll → exec i t = .next (t.answered 0x00#8)

/-- R25. The two unnamed bits of `data2` are stored like every other bit, and nothing depends on their value: no
operation's answer, no output, and no field of the next state but those two bits. -/
def Obligations.UnnamedBitsAreStoredAndUnread : Prop :=
  (∀ raw : Vector Byte 33, (packSnapshot raw).data2.getLsbD 7 = raw[8].getLsbD 0 ∧
    (packSnapshot raw).data2.getLsbD 6 = raw[9].getLsbD 0) ∧
  (∀ (s : State) (i : Instr) (v : Byte), i ≠ .poll → v &&& 0x3F#8 = s.blk.snap.data2 &&& 0x3F#8 →
    ∃ a, exec i s = .next (s.answered a) ∧ exec i (s.withData2 v) = .next ((s.withData2 v).answered a)) ∧
  ∀ (s t : State) (v : Byte), v &&& 0x3F#8 = s.blk.snap.data2 &&& 0x3F#8 → step s = .next t →
    ∃ v', v' &&& 0x3F#8 = t.blk.snap.data2 &&& 0x3F#8 ∧ step (s.withData2 v) = .next (t.withData2 v')

/-! ### What a tick may change -/

/-- R20. Only the decode tick and reset write the snapshot, and each writes all four fields. -/
def Obligations.SnapshotIsWrittenByDecodeAndResetOnly : Prop :=
  ∀ s t : State, step s = .next t →
    (s.host.rst = true → t.blk.snap = ⟨0x00#8, 0x00#8, 0x00#8, 0x00#8⟩) ∧
    (s.host.rst = false → s.blk.phase = .dec → t.blk.snap = packSnapshot s.blk.raw) ∧
    (s.host.rst = false → s.blk.phase ≠ .dec → t.blk.snap = s.blk.snap)

/-- `result` is written only in the tick that ends a poll and by reset, and with the code of that end; in particular
not when a poll is accepted (10_state.md section 5). -/
def Obligations.ResultIsWrittenAtPollEndOnly : Prop :=
  ∀ s t : State, step s = .next t → t.blk.result ≠ s.blk.result →
    (s.host.rst = true ∧ t.blk.result = .notPolled) ∨
    (s.host.rst = false ∧ s.blk.phase = .dec ∧ t.blk.phase = .idle ∧ t.blk.result = .success) ∨
    (s.host.rst = false ∧ s.blk.phase = .cap ∧ t.blk.phase = .idle ∧ t.blk.result = .timeout ∧
      s.params.hardened = true)

/-- A poll that ends ends in one of two ways, exact in every field: by the decode tick with Success, or, with
`HARDENED = 1`, by a Timeout that keeps the snapshot, the slots and the counters (60_exceptions.md section 3). -/
def Obligations.PollEndsBySuccessOrTimeout : Prop :=
  ∀ s t : State, step s = .next t → s.host.rst = false → s.busy = true → t.busy = false →
    (s.blk.phase = .dec ∧
      t.blk = { s.blk with snap := packSnapshot s.blk.raw, result := .success, phase := .idle }) ∨
    (s.blk.phase = .cap ∧ s.params.hardened = true ∧
      t.blk = { s.blk with result := .timeout, phase := .idle })

/-- The transitions of the sequencer: IDLE to REQ by a `poll()`, REQ to CAP, CAP to DEC, DEC to IDLE in one tick, CAP
to IDLE by a Timeout with `HARDENED = 1`, and no other but by reset (10_state.md section 4). -/
def Obligations.PhaseTransitionsAreLinear : Prop :=
  ∀ s t : State, step s = .next t → s.host.rst = false →
    (t.blk.phase = s.blk.phase ∧ s.blk.phase ≠ .dec) ∨
    (s.blk.phase = .idle ∧ t.blk.phase = .req ∧ s.host.presentsPoll = true) ∨
    (s.blk.phase = .req ∧ t.blk.phase = .cap) ∨
    (s.blk.phase = .cap ∧ t.blk.phase = .dec) ∨
    (s.blk.phase = .dec ∧ t.blk.phase = .idle) ∨
    (s.blk.phase = .cap ∧ t.blk.phase = .idle ∧ t.blk.result = .timeout ∧ s.params.hardened = true)

/-- Every slot always holds `0x00` or `0x01`: reset leaves it so, every step keeps it so, and the only writes to a
slot are the clear by reset, the clear by an accepted `poll()` and the sample store (10_state.md section 2; the spec
derives it: "so the invariant holds in every reachable state"). -/
def Obligations.SlotsHoldZeroOrOne : Prop :=
  State.reset.blk.slotsBinary = true ∧
  (∀ s t : State, s.blk.slotsBinary = true → step s = .next t → t.blk.slotsBinary = true) ∧
  ∀ (s t : State) (j : Nat) (hj : j < 33), step s = .next t → t.blk.raw[j] ≠ s.blk.raw[j] →
    (s.host.rst = true ∧ t.blk.raw[j] = 0x00#8) ∨
    (s.blk.phase = .idle ∧ s.host.presentsPoll = true ∧ t.blk.raw[j] = 0x00#8) ∨
    (s.blk.phase = .cap ∧ s.blk.sub = .delay ∧ s.blk.timer = s.params.tSample ∧ j = s.blk.bitIdx ∧
      t.blk.raw[j] = if s.lineIn then 0x01#8 else 0x00#8)

/-- No step writes a parameter (10_state.md section 1; that `State` carries the parameters is log entry 1). -/
def Obligations.ParametersNeverChange : Prop :=
  ∀ (n : Nat) (s t : State), runTicks n s = .next t → t.params = s.params

/-- R123. ChecksumMismatch is code 2 of `result` and no rule produces it: it is not in the reset state, and a step
that ends with it began with it; so no run of any length from a state without it shows code 2. -/
def Obligations.ChecksumMismatchIsNeverProduced : Prop :=
  PollResult.checksumMismatch.code = 2#2 ∧
  State.reset.blk.result ≠ .checksumMismatch ∧
  ∀ (n : Nat) (s t : State), s.blk.result ≠ .checksumMismatch → runTicks n s = .next t →
    t.blk.result ≠ .checksumMismatch

/-! ### What a run may depend on -/

/-- Two instances with different clock periods and the same inputs per tick behave identically
(70_reset_and_hazards.md section 4). -/
def Obligations.TickLengthDoesNotMatter : Prop :=
  ∀ (n : Nat) (s t : State) (q : Rat), runTicks n s = .next t →
    runTicks n (s.withTickNs q) = .next (t.withTickNs q)

/-- What a calm host presents (queries, reserved words, nothing) does not change the course of the block: two runs
that differ only in it go through the same blocks (40_poll_request.md section 3, 43_query.md section 5). -/
def Obligations.CalmHostDoesNotDisturbThePoll : Prop :=
  ∀ (n : Nat) (s t : State) (q : List HostPort), s.calm = true → q.all HostPort.calm = true →
    runTicks n s = .next t →
    ∃ u, runTicks n { s with hostQ := q } = .next u ∧ u.blk = t.blk ∧ u.lineQ = t.lineQ ∧ u.tick = t.tick

/-- Idempotence (43_query.md section 5; the spec derives it: "every query returns at `t2` what it returned at `t1`"):
over a run with no decode tick and no reset every predicate and axis read answers at the end what it answered at the
start; and over a run with no reset in which no poll ends, so does `pollResult()`. -/
def Obligations.QueriesAreIdempotent : Prop :=
  (∀ (n : Nat) (s t : State) (i : Instr), i ≠ .poll → i ≠ .pollResult → runTicks n s = .next t →
    (∀ k u, k < n → runTicks k s = .next u → u.host.rst = false ∧ u.blk.phase ≠ .dec) →
    ∃ v, exec i s = .next (s.answered v) ∧ exec i t = .next (t.answered v)) ∧
  ∀ (n : Nat) (s t : State), runTicks n s = .next t →
    (∀ k u u', k < n → runTicks k s = .next u → step u = .next u' →
      u.host.rst = false ∧ ¬(u.busy = true ∧ u'.busy = false)) →
    ∃ v, exec .pollResult s = .next (s.answered v) ∧ exec .pollResult t = .next (t.answered v)

/-! ### The whole machine -/

/-- The reset state meets the invariant. -/
def Obligations.ResetMeetsTheInvariant : Prop := State.reset.inv = true

/-- Every step keeps the invariant (each part is a fact the spec derives or states of every reachable state, see
`State.inv`): legal parameters, slots of 0 and 1, counters within their bounds, the cell counters of CAP, the slots
not yet reached clear, `result` legal for the mode. -/
def Obligations.StepKeepsTheInvariant : Prop :=
  ∀ s t : State, s.inv = true → step s = .next t → t.inv = true

/-- From a state that meets the invariant no step faults (20_memory.md section 4; the spec derives it: "an index above
32 is never produced"). -/
def Obligations.InvariantStatesDoNotFault : Prop :=
  ∀ (s : State) (f : Fault), s.inv = true → step s ≠ .fault f

/-- A step refuses exactly when `poll()` is presented while busy and reset is not asserted, and by that name
(40_poll_request.md section 1). -/
def Obligations.StepRefusesExactlyPollWhileBusy : Prop :=
  ∀ (s : State) (r : Refusal), step s = .refused r ↔
    (r = .pollWhileBusy ∧ s.host.rst = false ∧ s.host.presentsPoll = true ∧ s.blk.phase ≠ .idle)

/-- With `HARDENED = 1` every poll ends, whatever the line does: from every busy state that meets the invariant the
block is idle again within the bound of the tick formulas (70_reset_and_hazards.md section 4; the spec derives it:
"every accepted poll ends within the bound of rule R151, whatever the line does"). -/
def Obligations.HardenedPollEndsWithinTheBound : Prop :=
  ∀ s : State, s.inv = true → s.params.hardened = true → s.calm = true → s.busy = true →
    ∃ n t, n ≤ nReq s.params + 33 * (2 * s.params.tTimeout + s.params.tSample) + 1 ∧
      runTicks n s = .next t ∧ t.busy = false
end

