-- ==== Sys2Proof/Laws/State.lean ====
section
/-! SUPPORT. One lemma per field per update of the state and of the block, true by rfl, so that no later proof
unfolds a record update. -/

namespace Sys2Proof.Machine

/-! `State.respond` -/
@[simp] theorem State_respond_params (s : State) (v : Byte) : (s.respond v).params = s.params := rfl
@[simp] theorem State_respond_blk (s : State) (v : Byte) : (s.respond v).blk = s.blk := rfl
@[simp] theorem State_respond_hostQ (s : State) (v : Byte) : (s.respond v).hostQ = s.hostQ := rfl
@[simp] theorem State_respond_lineQ (s : State) (v : Byte) : (s.respond v).lineQ = s.lineQ := rfl
@[simp] theorem State_respond_tick (s : State) (v : Byte) : (s.respond v).tick = s.tick := rfl
@[simp] theorem State_respond_out (s : State) (v : Byte) : (s.respond v).out = { s.out with rspData := v, rspErr := false } := rfl

/-! `State.answered` -/
@[simp] theorem State_answered_params (s : State) (v : Byte) : (s.answered v).params = s.params := rfl
@[simp] theorem State_answered_blk (s : State) (v : Byte) : (s.answered v).blk = s.blk := rfl
@[simp] theorem State_answered_hostQ (s : State) (v : Byte) : (s.answered v).hostQ = s.hostQ := rfl
@[simp] theorem State_answered_lineQ (s : State) (v : Byte) : (s.answered v).lineQ = s.lineQ := rfl
@[simp] theorem State_answered_tick (s : State) (v : Byte) : (s.answered v).tick = s.tick := rfl
@[simp] theorem State_answered_out (s : State) (v : Byte) : (s.answered v).out = { s.out with rspData := v, rspErr := false } := rfl

/-! `State.illegalCommand` -/
@[simp] theorem State_illegalCommand_params (s : State) : (s.illegalCommand).params = s.params := rfl
@[simp] theorem State_illegalCommand_blk (s : State) : (s.illegalCommand).blk = s.blk := rfl
@[simp] theorem State_illegalCommand_hostQ (s : State) : (s.illegalCommand).hostQ = s.hostQ := rfl
@[simp] theorem State_illegalCommand_lineQ (s : State) : (s.illegalCommand).lineQ = s.lineQ := rfl
@[simp] theorem State_illegalCommand_tick (s : State) : (s.illegalCommand).tick = s.tick := rfl
@[simp] theorem State_illegalCommand_out (s : State) : (s.illegalCommand).out = { s.out with rspData := 0x00#8, rspErr := true } := rfl

/-! `State.noCommand` -/
@[simp] theorem State_noCommand_params (s : State) : (s.noCommand).params = s.params := rfl
@[simp] theorem State_noCommand_blk (s : State) : (s.noCommand).blk = s.blk := rfl
@[simp] theorem State_noCommand_hostQ (s : State) : (s.noCommand).hostQ = s.hostQ := rfl
@[simp] theorem State_noCommand_lineQ (s : State) : (s.noCommand).lineQ = s.lineQ := rfl
@[simp] theorem State_noCommand_tick (s : State) : (s.noCommand).tick = s.tick := rfl
@[simp] theorem State_noCommand_out (s : State) : (s.noCommand).out = { s.out with rspData := 0x00#8, rspErr := false } := rfl

/-! `State.advance` -/
@[simp] theorem State_advance_params (s : State) : (s.advance).params = s.params := rfl
@[simp] theorem State_advance_blk (s : State) : (s.advance).blk = s.blk := rfl
@[simp] theorem State_advance_hostQ (s : State) : (s.advance).hostQ = s.hostQ.tail := rfl
@[simp] theorem State_advance_lineQ (s : State) : (s.advance).lineQ = s.lineQ.tail := rfl
@[simp] theorem State_advance_tick (s : State) : (s.advance).tick = s.tick + 1 := rfl
@[simp] theorem State_advance_out (s : State) : (s.advance).out = s.out := rfl

/-! `resetTick` -/
@[simp] theorem resetTick_params (s : State) : (resetTick s).params = s.params := rfl
@[simp] theorem resetTick_blk (s : State) : (resetTick s).blk = Block.reset := rfl
@[simp] theorem resetTick_hostQ (s : State) : (resetTick s).hostQ = s.hostQ.tail := rfl
@[simp] theorem resetTick_lineQ (s : State) : (resetTick s).lineQ = s.lineQ.tail := rfl
@[simp] theorem resetTick_tick (s : State) : (resetTick s).tick = s.tick + 1 := rfl
@[simp] theorem resetTick_out (s : State) : (resetTick s).out = s.outputs := rfl

/-! `State.after` -/
@[simp] theorem State_after_params (s : State) (b : Block) : (s.after b).params = s.params := rfl
@[simp] theorem State_after_blk (s : State) (b : Block) : (s.after b).blk = b := rfl
@[simp] theorem State_after_hostQ (s : State) (b : Block) : (s.after b).hostQ = s.hostQ.tail := rfl
@[simp] theorem State_after_lineQ (s : State) (b : Block) : (s.after b).lineQ = s.lineQ.tail := rfl
@[simp] theorem State_after_tick (s : State) (b : Block) : (s.after b).tick = s.tick + 1 := rfl
@[simp] theorem State_after_out (s : State) (b : Block) : (s.after b).out = s.outputs := rfl

/-! `State.present` -/
@[simp] theorem State_present_params (s : State) (w : CmdWord) : (s.present w).params = s.params := rfl
@[simp] theorem State_present_blk (s : State) (w : CmdWord) : (s.present w).blk = s.blk := rfl
@[simp] theorem State_present_hostQ (s : State) (w : CmdWord) : (s.present w).hostQ = ⟨false, true, w⟩ :: s.hostQ.tail := rfl
@[simp] theorem State_present_lineQ (s : State) (w : CmdWord) : (s.present w).lineQ = s.lineQ := rfl
@[simp] theorem State_present_tick (s : State) (w : CmdWord) : (s.present w).tick = s.tick := rfl
@[simp] theorem State_present_out (s : State) (w : CmdWord) : (s.present w).out = s.out := rfl

/-! `State.silenced` -/
@[simp] theorem State_silenced_params (s : State) : (s.silenced).params = s.params := rfl
@[simp] theorem State_silenced_blk (s : State) : (s.silenced).blk = s.blk := rfl
@[simp] theorem State_silenced_hostQ (s : State) : (s.silenced).hostQ = HostPort.silent :: s.hostQ.tail := rfl
@[simp] theorem State_silenced_lineQ (s : State) : (s.silenced).lineQ = s.lineQ := rfl
@[simp] theorem State_silenced_tick (s : State) : (s.silenced).tick = s.tick := rfl
@[simp] theorem State_silenced_out (s : State) : (s.silenced).out = s.out := rfl

/-! `State.withTickNs` -/
@[simp] theorem State_withTickNs_params (s : State) (q : Rat) : (s.withTickNs q).params = { s.params with tickNs := q } := rfl
@[simp] theorem State_withTickNs_blk (s : State) (q : Rat) : (s.withTickNs q).blk = s.blk := rfl
@[simp] theorem State_withTickNs_hostQ (s : State) (q : Rat) : (s.withTickNs q).hostQ = s.hostQ := rfl
@[simp] theorem State_withTickNs_lineQ (s : State) (q : Rat) : (s.withTickNs q).lineQ = s.lineQ := rfl
@[simp] theorem State_withTickNs_tick (s : State) (q : Rat) : (s.withTickNs q).tick = s.tick := rfl
@[simp] theorem State_withTickNs_out (s : State) (q : Rat) : (s.withTickNs q).out = s.out := rfl

/-! `State.withData2` -/
@[simp] theorem State_withData2_params (s : State) (v : Byte) : (s.withData2 v).params = s.params := rfl
@[simp] theorem State_withData2_blk (s : State) (v : Byte) : (s.withData2 v).blk = { s.blk with snap := { s.blk.snap with data2 := v } } := rfl
@[simp] theorem State_withData2_hostQ (s : State) (v : Byte) : (s.withData2 v).hostQ = s.hostQ := rfl
@[simp] theorem State_withData2_lineQ (s : State) (v : Byte) : (s.withData2 v).lineQ = s.lineQ := rfl
@[simp] theorem State_withData2_tick (s : State) (v : Byte) : (s.withData2 v).tick = s.tick := rfl
@[simp] theorem State_withData2_out (s : State) (v : Byte) : (s.withData2 v).out = s.out := rfl

/-! `closeTick` -/
@[simp] theorem closeTick_params (s s' : State) (b : Block) : (closeTick s s' b).params = s'.params := rfl
@[simp] theorem closeTick_blk (s s' : State) (b : Block) : (closeTick s s' b).blk = b := rfl
@[simp] theorem closeTick_hostQ (s s' : State) (b : Block) : (closeTick s s' b).hostQ = s'.hostQ.tail := rfl
@[simp] theorem closeTick_lineQ (s s' : State) (b : Block) : (closeTick s s' b).lineQ = s'.lineQ.tail := rfl
@[simp] theorem closeTick_tick (s s' : State) (b : Block) : (closeTick s s' b).tick = s'.tick + 1 := rfl
@[simp] theorem closeTick_out (s s' : State) (b : Block) : (closeTick s s' b).out = { s'.out with lineDriveLow := s.lineDriveLow, busy := s.busy } := rfl

/-! `clearSlots` -/
@[simp] theorem clearSlots_raw (b : Block) : (clearSlots b).raw = Vector.replicate 33 0x00#8 := rfl
@[simp] theorem clearSlots_snap (b : Block) : (clearSlots b).snap = b.snap := rfl
@[simp] theorem clearSlots_phase (b : Block) : (clearSlots b).phase = b.phase := rfl
@[simp] theorem clearSlots_sub (b : Block) : (clearSlots b).sub = b.sub := rfl
@[simp] theorem clearSlots_reqPos (b : Block) : (clearSlots b).reqPos = b.reqPos := rfl
@[simp] theorem clearSlots_bitIdx (b : Block) : (clearSlots b).bitIdx = b.bitIdx := rfl
@[simp] theorem clearSlots_timer (b : Block) : (clearSlots b).timer = b.timer := rfl
@[simp] theorem clearSlots_result (b : Block) : (clearSlots b).result = b.result := rfl

/-! `acceptPoll` -/
@[simp] theorem acceptPoll_raw (b : Block) : (acceptPoll b).raw = Vector.replicate 33 0x00#8 := rfl
@[simp] theorem acceptPoll_snap (b : Block) : (acceptPoll b).snap = b.snap := rfl
@[simp] theorem acceptPoll_phase (b : Block) : (acceptPoll b).phase = Phase.req := rfl
@[simp] theorem acceptPoll_sub (b : Block) : (acceptPoll b).sub = b.sub := rfl
@[simp] theorem acceptPoll_reqPos (b : Block) : (acceptPoll b).reqPos = 0 := rfl
@[simp] theorem acceptPoll_bitIdx (b : Block) : (acceptPoll b).bitIdx = b.bitIdx := rfl
@[simp] theorem acceptPoll_timer (b : Block) : (acceptPoll b).timer = b.timer := rfl
@[simp] theorem acceptPoll_result (b : Block) : (acceptPoll b).result = b.result := rfl

/-! `decTick` -/
@[simp] theorem decTick_raw (b : Block) : (decTick b).raw = b.raw := rfl
@[simp] theorem decTick_snap (b : Block) : (decTick b).snap = packSnapshot b.raw := rfl
@[simp] theorem decTick_phase (b : Block) : (decTick b).phase = Phase.idle := rfl
@[simp] theorem decTick_sub (b : Block) : (decTick b).sub = b.sub := rfl
@[simp] theorem decTick_reqPos (b : Block) : (decTick b).reqPos = b.reqPos := rfl
@[simp] theorem decTick_bitIdx (b : Block) : (decTick b).bitIdx = b.bitIdx := rfl
@[simp] theorem decTick_timer (b : Block) : (decTick b).timer = b.timer := rfl
@[simp] theorem decTick_result (b : Block) : (decTick b).result = PollResult.success := rfl

/-! The inputs seen through the updates -/
@[simp] theorem State_present_host (s : State) (w : CmdWord) : (s.present w).host = ⟨false, true, w⟩ := rfl
@[simp] theorem State_silenced_host (s : State) : s.silenced.host = HostPort.silent := rfl
@[simp] theorem State_present_lineIn (s : State) (w : CmdWord) : (s.present w).lineIn = s.lineIn := rfl
@[simp] theorem State_silenced_lineIn (s : State) : s.silenced.lineIn = s.lineIn := rfl
@[simp] theorem State_withTickNs_host (s : State) (q : Rat) : (s.withTickNs q).host = s.host := rfl
@[simp] theorem State_withTickNs_lineIn (s : State) (q : Rat) : (s.withTickNs q).lineIn = s.lineIn := rfl

end Sys2Proof.Machine
end

