-- ==== Sys2Proof/Laws/Ops.lean ====
section
/-! SUPPORT. What each shared operation can do, said once: the inputs, the slots, the response of the operations,
Timeout, the step rule of the phase, the close of a tick. Later proofs cite these and do not unfold. -/

namespace Sys2Proof.Machine

/-! ### The inputs -/

theorem lineIn_eq_lineAt_zero (s : State) : s.lineIn = s.lineAt 0 := by
  simp only [State.lineIn, State.lineAt]
  cases s.lineQ <;> rfl

theorem after_lineAt (s : State) (b : Block) (k : Nat) : (s.after b).lineAt k = s.lineAt (k + 1) := by
  simp only [State.after, State.lineAt, show s.tick + 1 + k = s.tick + (k + 1) by omega]
  cases s.lineQ <;> simp [List.getD]

theorem calm_iff (p : HostPort) : p.calm = true ↔ p.rst = false ∧ p.presentsPoll = false := by
  simp [HostPort.calm]

/-- A calm host is calm in this tick. -/
theorem State.calm_host {s : State} (h : s.calm = true) : s.host.calm = true := by
  simp only [State.calm, List.all_eq_true] at h
  simp only [State.host]
  cases hq : s.hostQ with
  | nil => rfl
  | cons a l => exact h a (by simp [hq])

/-- A calm host stays calm in the next tick. -/
theorem State.calm_after {s : State} (b : Block) (h : s.calm = true) : (s.after b).calm = true := by
  simp only [State.calm, List.all_eq_true, State.after] at *
  exact fun x hx => h x (List.mem_of_mem_tail hx)

/-! ### The slots -/

theorem slotsBinary_iff (b : Block) :
    b.slotsBinary = true ↔ ∀ (j : Nat) (hj : j < 33), b.raw[j] = 0x00#8 ∨ b.raw[j] = 0x01#8 := by
  simp only [Block.slotsBinary, List.all_eq_true, Bool.or_eq_true, beq_iff_eq]
  constructor
  · intro h j hj
    exact h _ (by simp [Vector.mem_toList_iff])
  · intro h v hv
    rw [Vector.mem_toList_iff] at hv
    obtain ⟨i, hi, rfl⟩ := Vector.mem_iff_getElem.1 hv
    exact h i hi

theorem zext8_zero_or_one (b : Bool) : zext8 b = 0x00#8 ∨ zext8 b = 0x01#8 := by cases b <;> simp [zext8]

theorem writeSlot_of_lt (b : Block) (i : Nat) (v : Byte) (h : i < 33) :
    writeSlot b i v = .next { b with raw := b.raw.set i v } := by simp [writeSlot, h]

theorem writeSlot_of_ge (b : Block) (i : Nat) (v : Byte) (h : 33 ≤ i) :
    writeSlot b i v = .fault (.noSuchSlot i) := by simp [writeSlot, show ¬ i < 33 by omega]

/-- The sample store keeps every slot at 0 or 1 (R16). -/
theorem writeSlot_slotsBinary {b c : Block} {i : Nat} {bit : Bool} (hb : b.slotsBinary = true)
    (h : writeSlot b i (zext8 bit) = .next c) : c.slotsBinary = true := by
  by_cases hi : i < 33
  · rw [writeSlot_of_lt b i _ hi] at h
    cases h
    rw [slotsBinary_iff] at hb ⊢
    intro j hj
    by_cases e : i = j
    · subst e
      simpa using zext8_zero_or_one bit
    · simpa [Vector.getElem_set_ne, e] using hb j hj
  · rw [writeSlot_of_ge b i _ (by omega)] at h
    cases h

/-- The clear of an accepted poll leaves every slot at 0 (R16, R73). -/
theorem acceptPoll_slotsBinary (b : Block) : (acceptPoll b).slotsBinary = true := by
  rw [slotsBinary_iff]
  intro j hj
  simp

/-- The block after reset has every slot at 0 (R16, R37). -/
theorem reset_slotsBinary : Block.reset.slotsBinary = true := by decide

/-! ### The operations -/

/-- Every query answers one byte with `rsp_err = 0` and changes nothing else (R95). -/
theorem exec_query (i : Instr) (s : State) (h : i ≠ .poll) : ∃ v, exec i s = .next (s.respond v) := by
  cases i <;> first | exact absurd rfl h | exact ⟨_, rfl⟩

/-- `poll()` is accepted in IDLE (R70) and refused in every other phase (R72). -/
theorem execPoll_cases (s : State) :
    (s.blk.phase = .idle ∧ exec .poll s = .next ({ s with blk := acceptPoll s.blk }.respond 0x00#8)) ∨
    (s.blk.phase ≠ .idle ∧ exec .poll s = .refused .pollWhileBusy) := by
  cases h : s.blk.phase <;> simp [exec, execPoll, h]

/-- No operation faults. -/
theorem exec_ne_fault (i : Instr) (s : State) (f : Fault) : exec i s ≠ .fault f := by
  by_cases h : i = .poll
  · subst h
    rcases execPoll_cases s with ⟨_, e⟩ | ⟨_, e⟩ <;> simp [e]
  · obtain ⟨v, e⟩ := exec_query i s h
    simp [e]

/-! ### Timeout -/

theorem raiseTimeout_hardened {p : Params} (h : p.hardened = true) (b : Block) :
    raiseTimeout p b = { b with result := .timeout, phase := .idle } := by simp [raiseTimeout, h]

theorem raiseTimeout_legacy {p : Params} (h : p.hardened = false) (b : Block) :
    raiseTimeout p b = { b with phase := .dec } := by simp [raiseTimeout, h]

/-! ### The step rule of the phase and the close of the tick -/

/-- Everything the step rule of a phase can do when it has a next block (R74, R80, R81, R83, R89). -/
theorem phaseTick_next {p : Params} {l : Bool} {b c : Block} (h : phaseTick b.phase p l b = .next c) :
    (b.phase = .idle ∧ c = b) ∨
    (b.phase = .req ∧ c = reqTick p b) ∨
    (b.phase = .dec ∧ c = decTick b) ∨
    (b.phase = .cap ∧ b.sub = .waitLow ∧ c = waitLowTick p l b) ∨
    (b.phase = .cap ∧ b.sub = .waitHigh ∧ c = waitHighTick p l b) ∨
    (b.phase = .cap ∧ b.sub = .delay ∧ b.timer ≠ p.tSample ∧ c = { b with timer := b.timer + 1 }) ∨
    (b.phase = .cap ∧ b.sub = .delay ∧ b.timer = p.tSample ∧ ∃ hb : b.bitIdx < 33,
      c = { b with
        raw := b.raw.set b.bitIdx (zext8 l), bitIdx := b.bitIdx + 1, sub := .waitHigh, timer := 0 }) := by
  cases hp : b.phase <;> simp only [hp, phaseTick, capTick, Host.Outcome.next.injEq] at h
  · simp [h]
  · simp [h]
  · cases hs : b.sub <;> simp only [hs, Host.Outcome.next.injEq, delayTick] at h
    · simp [h]
    · by_cases ht : b.timer = p.tSample
      · by_cases hb : b.bitIdx < 33
        · rw [if_pos ht, writeSlot_of_lt _ _ _ hb] at h
          simp only [Host.Outcome.next.injEq] at h
          simp [hp, ht, hb, ← h]
        · rw [if_pos ht, writeSlot_of_ge _ _ _ (by omega)] at h
          cases h
      · rw [if_neg ht] at h
        simp only [Host.Outcome.next.injEq] at h
        simp [hp, ht, ← h]
    · simp [h]
  · simp [h]

/-- The step rule of a phase never refuses. -/
theorem phaseTick_ne_refused (ph : Phase) (p : Params) (l : Bool) (b : Block) (r : Refusal) :
    phaseTick ph p l b ≠ .refused r := by
  cases ph <;> simp only [phaseTick, capTick, ne_eq, reduceCtorEq, not_false_eq_true]
  cases b.sub <;> simp only [delayTick, writeSlot, reduceCtorEq, not_false_eq_true]
  split
  · split <;> simp
  · simp

/-- The only fault of a step rule is the sample store into a slot above 32. -/
theorem phaseTick_fault {p : Params} {l : Bool} {b : Block} {f : Fault} (h : phaseTick b.phase p l b = .fault f) :
    b.phase = .cap ∧ b.sub = .delay ∧ b.timer = p.tSample ∧ 33 ≤ b.bitIdx ∧ f = .noSuchSlot b.bitIdx := by
  cases hp : b.phase <;> simp only [hp, phaseTick, capTick, reduceCtorEq] at h
  cases hs : b.sub <;> simp only [hs, delayTick, reduceCtorEq] at h
  by_cases ht : b.timer = p.tSample
  · by_cases hb : b.bitIdx < 33
    · rw [if_pos ht, writeSlot_of_lt _ _ _ hb] at h
      cases h
    · rw [if_pos ht, writeSlot_of_ge _ _ _ (by omega)] at h
      cases h
      exact ⟨rfl, rfl, ht, by omega, rfl⟩
  · rw [if_neg ht] at h
    cases h

/-- A tick that ends with a next state ends it by `closeTick` with the block of the step rule. -/
theorem endTick_next {s s' t : State} (h : endTick s s' = .next t) :
    ∃ b, phaseTick s.blk.phase s.params s.lineIn s'.blk = .next b ∧ t = closeTick s s' b := by
  unfold endTick at h
  split at h
  · rename_i b hb
    cases h
    exact ⟨b, hb, rfl⟩
  · cases h
  · cases h

/-! ### Runs -/

theorem runTicks_zero (s : State) : runTicks 0 s = .next s := rfl

theorem runTicks_succ {s t : State} (n : Nat) (h : step s = .next t) : runTicks (n + 1) s = runTicks n t := by
  simp [runTicks, h]

/-- A run is a run of its first part and then of the rest. -/
theorem runTicks_add (m n : Nat) {s t : State} (h : runTicks m s = .next t) : runTicks (m + n) s = runTicks n t := by
  induction m generalizing s with
  | zero =>
    cases h
    simp
  | succ m ih =>
    rw [show m + 1 + n = m + n + 1 by omega]
    simp only [runTicks] at h ⊢
    cases hs : step s with
    | next u =>
      rw [hs] at h
      exact ih h
    | fault f =>
      rw [hs] at h
      cases h
    | refused r =>
      rw [hs] at h
      cases h

end Sys2Proof.Machine
end

