-- ==== Sys2Proof/Laws/PerInstr.lean ====
section
/-! SUPPORT. Per-operation lemmas: the word of each operation decodes to it and is no reserved word (R59, R60). -/

namespace Sys2Proof.Laws

/-- The operation is well formed, its word is not reserved, and its word decodes to it. -/
def RoundTrip.Statement (i : Instr) : Prop :=
  i.wellFormed = true ∧ CmdWord.wellFormed (encode i) = true ∧ decodeWord (encode i) = .ok i

theorem RoundTrip.dRightDown : RoundTrip.Statement .dRightDown := ⟨rfl, rfl, rfl⟩
theorem RoundTrip.dLeftDown : RoundTrip.Statement .dLeftDown := ⟨rfl, rfl, rfl⟩
theorem RoundTrip.dDownDown : RoundTrip.Statement .dDownDown := ⟨rfl, rfl, rfl⟩
theorem RoundTrip.dUpDown : RoundTrip.Statement .dUpDown := ⟨rfl, rfl, rfl⟩
theorem RoundTrip.startDown : RoundTrip.Statement .startDown := ⟨rfl, rfl, rfl⟩
theorem RoundTrip.zDown : RoundTrip.Statement .zDown := ⟨rfl, rfl, rfl⟩
theorem RoundTrip.bDown : RoundTrip.Statement .bDown := ⟨rfl, rfl, rfl⟩
theorem RoundTrip.aDown : RoundTrip.Statement .aDown := ⟨rfl, rfl, rfl⟩
theorem RoundTrip.cRightDown : RoundTrip.Statement .cRightDown := ⟨rfl, rfl, rfl⟩
theorem RoundTrip.cLeftDown : RoundTrip.Statement .cLeftDown := ⟨rfl, rfl, rfl⟩
theorem RoundTrip.cDownDown : RoundTrip.Statement .cDownDown := ⟨rfl, rfl, rfl⟩
theorem RoundTrip.cUpDown : RoundTrip.Statement .cUpDown := ⟨rfl, rfl, rfl⟩
theorem RoundTrip.rBumperDown : RoundTrip.Statement .rBumperDown := ⟨rfl, rfl, rfl⟩
theorem RoundTrip.lBumperDown : RoundTrip.Statement .lBumperDown := ⟨rfl, rfl, rfl⟩
theorem RoundTrip.poll : RoundTrip.Statement .poll := ⟨rfl, rfl, rfl⟩
theorem RoundTrip.stickX : RoundTrip.Statement .stickX := ⟨rfl, rfl, rfl⟩
theorem RoundTrip.stickY : RoundTrip.Statement .stickY := ⟨rfl, rfl, rfl⟩
theorem RoundTrip.pollResult : RoundTrip.Statement .pollResult := ⟨rfl, rfl, rfl⟩

end Sys2Proof.Laws
end

