-- ==== Sys2Proof/Tests/Slice0.lean ====
section
/-! SUPPORT. The model's own tests: the well-formedness smoke, words written out bit by bit, one step of each
operation and of each step rule on the vectors of 95_test_vectors.md, and for every statement with hypotheses a
concrete state that meets them. -/

namespace Sys2Proof.Tests

open Sys2Proof Sys2Proof.Machine

/-! ### Well-formedness smoke -/

theorem test_default_params_wellFormed : Params.default.wellFormed = true := by decide
theorem test_tickNs_zero_refused : Params.wellFormed { Params.default with tickNs := 0 } = false := by decide
theorem test_tSample_zero_refused : Params.wellFormed { Params.default with tSample := 0 } = false := by decide
theorem test_tTimeout_zero_refused : Params.wellFormed { Params.default with tTimeout := 0 } = false := by decide
theorem test_no_pulse_refused : Params.wellFormed { Params.default with reqPulses := [] } = false := by decide
theorem test_pulse_low_zero_refused :
    Params.wellFormed { Params.default with reqPulses := [⟨3, 1⟩, ⟨0, 1⟩] } = false := by decide
theorem test_pulse_high_zero_refused : Params.wellFormed { Params.default with reqPulses := [⟨3, 0⟩] } = false := by
  decide
theorem test_word_0E_refused : CmdWord.wellFormed 0x0E#5 = false := by decide
theorem test_word_0F_refused : CmdWord.wellFormed 0x0F#5 = false := by decide
theorem test_word_14_refused : CmdWord.wellFormed 0x14#5 = false := by decide
theorem test_word_1F_refused : CmdWord.wellFormed 0x1F#5 = false := by decide

/-! ### Words written out from the formats of 30_encoding.md: `cls bsel bit` and `cls fn` -/

theorem test_decode_dRightDown : decodeWord 0b00000#5 = .ok .dRightDown := rfl
theorem test_decode_dLeftDown : decodeWord 0b00001#5 = .ok .dLeftDown := rfl
theorem test_decode_dDownDown : decodeWord 0b00010#5 = .ok .dDownDown := rfl
theorem test_decode_dUpDown : decodeWord 0b00011#5 = .ok .dUpDown := rfl
theorem test_decode_startDown : decodeWord 0b00100#5 = .ok .startDown := rfl
theorem test_decode_zDown : decodeWord 0b00101#5 = .ok .zDown := rfl
theorem test_decode_bDown : decodeWord 0b00110#5 = .ok .bDown := rfl
theorem test_decode_aDown : decodeWord 0b00111#5 = .ok .aDown := rfl
theorem test_decode_cRightDown : decodeWord 0b01000#5 = .ok .cRightDown := rfl
theorem test_decode_cLeftDown : decodeWord 0b01001#5 = .ok .cLeftDown := rfl
theorem test_decode_cDownDown : decodeWord 0b01010#5 = .ok .cDownDown := rfl
theorem test_decode_cUpDown : decodeWord 0b01011#5 = .ok .cUpDown := rfl
theorem test_decode_rBumperDown : decodeWord 0b01100#5 = .ok .rBumperDown := rfl
theorem test_decode_lBumperDown : decodeWord 0b01101#5 = .ok .lBumperDown := rfl
theorem test_decode_poll : decodeWord 0b10000#5 = .ok .poll := rfl
theorem test_decode_stickX : decodeWord 0b10001#5 = .ok .stickX := rfl
theorem test_decode_stickY : decodeWord 0b10010#5 = .ok .stickY := rfl
theorem test_decode_pollResult : decodeWord 0b10011#5 = .ok .pollResult := rfl
theorem test_decode_0E : decodeWord 0b01110#5 = .error (.reservedQuery 6) := rfl
theorem test_decode_0F : decodeWord 0b01111#5 = .error (.reservedQuery 7) := rfl
theorem test_decode_14 : decodeWord 0b10100#5 = .error (.reservedControl 4) := rfl
theorem test_decode_1F : decodeWord 0b11111#5 = .error (.reservedControl 15) := rfl
theorem test_table_word_poll : decodeTableWord 8 0x10 = some .poll := rfl
theorem test_table_word_too_wide : decodeTableWord 8 0x30 = none := rfl

/-! ### Small states -/

/-- A state after reset but for its block and its listed inputs. -/
def at_ (b : Block) (h : List HostPort) (l : List Bool) : State :=
  { State.reset with blk := b, hostQ := h, lineQ := l }

/-- The host presents word `w`. -/
def cmd (w : CmdWord) : HostPort := ⟨false, true, w⟩

/-- The host asserts `rst`. -/
def rstPort : HostPort := ⟨true, false, 0#5⟩

/-- A block with the given snapshot, idle. -/
def withSnap (a b x y : Byte) : Block := { Block.reset with snap := ⟨a, b, x, y⟩, result := .success }

/-- The snapshot of vector V-Q1 (95_test_vectors.md section 2.5). -/
def vq1 : Block := withSnap 0x90 0x20 0x05 0xFD

/-- The snapshot of vector V-Q2. -/
def vq2 : Block := withSnap 0x4A 0x15 0x80 0x7F

/-- The answer shown in the tick that presents word `w` in block `b`, with the phase after it. -/
def answer (b : Block) (w : CmdWord) : Option (Byte × Bool × Phase) :=
  match step (at_ b [cmd w] []) with
  | .next t => some (t.out.rspData, t.out.rspErr, t.blk.phase)
  | .fault _ => none
  | .refused _ => none

/-- A block in CAP with the given sub-phase, cell index and timer. -/
def capBlock (sub : SubPhase) (idx tm : Nat) : Block :=
  { Block.reset with phase := .cap, sub := sub, bitIdx := idx, timer := tm }

/-- A block in REQ at position `k`. -/
def reqBlock (k : Nat) : Block := { Block.reset with phase := .req, reqPos := k }

/-- A block in DEC whose slots are given by a list of 33 bits. -/
def decBlock (bits : List Bool) : Block :=
  { Block.reset with phase := .dec, bitIdx := 33, raw := Vector.ofFn fun i => zext8 (bits.getD i.val false) }

/-- What one step makes of the block, the line at level `l` and nothing presented. -/
def tickOf (p : Params) (b : Block) (l : Bool) : Option Block :=
  match step { at_ b [] [l] with params := p } with
  | .next t => some t.blk
  | .fault _ => none
  | .refused _ => none

/-- The parameters with `HARDENED = 0`. -/
def legacy : Params := { Params.default with hardened := false }

/-! ### One step of each operation: columns V-Q1 and V-Q2 of 95_test_vectors.md section 2.5 -/

theorem test_dRightDown_vq1 : answer vq1 0x00#5 = some (0x00, false, .idle) := by decide
theorem test_dLeftDown_vq2 : answer vq2 0x01#5 = some (0x01, false, .idle) := by decide
theorem test_dDownDown_vq2 : answer vq2 0x02#5 = some (0x00, false, .idle) := by decide
theorem test_dUpDown_vq2 : answer vq2 0x03#5 = some (0x01, false, .idle) := by decide
theorem test_startDown_vq1 : answer vq1 0x04#5 = some (0x01, false, .idle) := by decide
theorem test_zDown_vq1 : answer vq1 0x05#5 = some (0x00, false, .idle) := by decide
theorem test_bDown_vq2 : answer vq2 0x06#5 = some (0x01, false, .idle) := by decide
theorem test_aDown_vq1 : answer vq1 0x07#5 = some (0x01, false, .idle) := by decide
theorem test_cRightDown_vq2 : answer vq2 0x08#5 = some (0x01, false, .idle) := by decide
theorem test_cLeftDown_vq2 : answer vq2 0x09#5 = some (0x00, false, .idle) := by decide
theorem test_cDownDown_vq2 : answer vq2 0x0A#5 = some (0x01, false, .idle) := by decide
theorem test_cUpDown_vq2 : answer vq2 0x0B#5 = some (0x00, false, .idle) := by decide
theorem test_rBumperDown_vq2 : answer vq2 0x0C#5 = some (0x01, false, .idle) := by decide
theorem test_lBumperDown_vq1 : answer vq1 0x0D#5 = some (0x01, false, .idle) := by decide
theorem test_stickX_vq2 : answer vq2 0x11#5 = some (0x80, false, .idle) := by decide
theorem test_stickY_vq1 : answer vq1 0x12#5 = some (0xFD, false, .idle) := by decide
theorem test_pollResult_after_reset : answer Block.reset 0x13#5 = some (0x03, false, .idle) := by decide
theorem test_pollResult_after_success : answer vq1 0x13#5 = some (0x00, false, .idle) := by decide
theorem test_poll_accepted : answer vq1 0x10#5 = some (0x00, false, .req) := by decide
theorem test_poll_while_busy_refused : step (at_ (reqBlock 1) [cmd 0x10#5] []) = .refused .pollWhileBusy := rfl
theorem test_reserved_0E_all_ones : answer (withSnap 0xFF 0xFF 0xFF 0xFF) 0x0E#5 = some (0x00, true, .idle) := by decide
theorem test_reserved_1F : answer vq2 0x1F#5 = some (0x00, true, .idle) := by decide

/-! ### One step of each step rule: vectors V-P2, V-P3, V-C1, V-T1 to V-T9, V-D, V-R -/

theorem test_request_has_35_ticks : nReq Params.default = 35 := by decide
theorem test_request_counts : tickOf Params.default (reqBlock 33) true = some (reqBlock 34) := by decide
theorem test_request_ends : tickOf Params.default (reqBlock 34) true =
    some { capBlock .waitLow 0 0 with reqPos := 34 } := by decide
theorem test_cell_starts : tickOf Params.default (capBlock .waitLow 0 3) false = some (capBlock .delay 0 1) := by decide
theorem test_waitLow_counts : tickOf Params.default (capBlock .waitLow 0 2) true = some (capBlock .waitLow 0 3) := by
  decide
theorem test_waitLow_times_out : tickOf Params.default (capBlock .waitLow 0 63) true =
    some { capBlock .waitLow 0 63 with phase := .idle, result := .timeout } := by decide
theorem test_waitLow_times_out_legacy : tickOf legacy (capBlock .waitLow 0 63) true =
    some { capBlock .waitLow 0 63 with phase := .dec } := by decide
theorem test_line_beats_timeout : tickOf Params.default (capBlock .waitLow 0 63) false = some (capBlock .delay 0 1) := by
  decide
theorem test_delay_counts : tickOf Params.default (capBlock .delay 0 1) true = some (capBlock .delay 0 2) := by decide
theorem test_sample_high : (tickOf Params.default (capBlock .delay 0 2) true).map
    (fun b => (b.raw[0], b.bitIdx, b.sub, b.timer)) = some (0x01, 1, .waitHigh, 0) := by decide
theorem test_sample_stop_slot_low : (tickOf Params.default (capBlock .delay 32 2) false).map
    (fun b => (b.raw[32], b.bitIdx, b.sub, b.timer)) = some (0x00, 33, .waitHigh, 0) := by decide
theorem test_waitHigh_ends_cell : tickOf Params.default (capBlock .waitHigh 1 0) true = some (capBlock .waitLow 1 0) := by
  decide
theorem test_waitHigh_ends_capture : tickOf Params.default (capBlock .waitHigh 33 0) true =
    some { capBlock .waitHigh 33 0 with phase := .dec } := by decide
theorem test_waitHigh_times_out : tickOf Params.default (capBlock .waitHigh 1 63) false =
    some { capBlock .waitHigh 1 63 with phase := .idle, result := .timeout } := by decide
theorem test_waitHigh_legacy_hangs : tickOf legacy (capBlock .waitHigh 1 0) false = some (capBlock .waitHigh 1 0) := by
  decide

/-- The slots of vector V-D3: `10010000 00100000 00000101 11111101`, stop 1. -/
def vd3 : List Bool :=
  [true, false, false, true, false, false, false, false] ++ [false, false, true, false, false, false, false, false]
    ++ [false, false, false, false, false, true, false, true] ++ [true, true, true, true, true, true, false, true]
    ++ [true]

theorem test_decode_tick_vd3 : (tickOf Params.default (decBlock vd3) true).map
    (fun b => (b.snap, b.result, b.phase)) = some (⟨0x90, 0x20, 0x05, 0xFD⟩, .success, .idle) := by decide
theorem test_stickY_fd_is_minus_3 : sext8ToInt 0xFD#8 = -3 := by decide
theorem test_frameBit_vd3 : ∀ i : Fin 32, frameBit ⟨0x90, 0x20, 0x05, 0xFD⟩ i = vd3.getD i.val false := by decide
theorem test_reset_wins_over_poll : (match step (at_ vq1 [⟨true, true, 0x10#5⟩] []) with
    | .next t => decide (t.blk = Block.reset ∧ t.out.rspData = 0x00#8 ∧ t.out.rspErr = false)
    | .fault _ => false
    | .refused _ => false) = true := by decide
theorem test_withFetchWord_runs_poll : step (State.reset.withFetchWord 8 0x10) =
    .next { State.reset with blk := reqBlock 0, tick := 1 } := rfl

/-! ### For every statement with hypotheses, states that meet them -/

theorem witness_DecodedWordIsTheEncodingOfItsOperation : decodeWord 0x0D#5 = .ok .lBumperDown := rfl

theorem witness_StepRunsTheDecodedOperation_next : ∃ s w i s' b, s.host.rst = false ∧ s.host.cmdValid = true ∧
    s.host.cmdOp = w ∧ decodeWord w = .ok i ∧ exec i s = .next s' ∧
    phaseTick s.blk.phase s.params s.lineIn s'.blk = .next b :=
  ⟨at_ (reqBlock 3) [cmd 0x07#5] [], 0x07#5, .aDown, _, _, rfl, rfl, rfl, rfl, rfl, rfl⟩

theorem witness_StepRunsTheDecodedOperation_fault : ∃ s w i s' f, s.host.rst = false ∧ s.host.cmdValid = true ∧
    s.host.cmdOp = w ∧ decodeWord w = .ok i ∧ exec i s = .next s' ∧
    phaseTick s.blk.phase s.params s.lineIn s'.blk = .fault f :=
  ⟨at_ (capBlock .delay 33 2) [cmd 0x07#5] [true], 0x07#5, .aDown, _, _, rfl, rfl, rfl, rfl, rfl, rfl⟩

theorem witness_StepRunsTheDecodedOperation_refused : ∃ s w i r, s.host.rst = false ∧ s.host.cmdValid = true ∧
    s.host.cmdOp = w ∧ decodeWord w = .ok i ∧ exec i s = .refused r :=
  ⟨at_ (reqBlock 3) [cmd 0x10#5] [], 0x10#5, .poll, _, rfl, rfl, rfl, rfl, rfl⟩

theorem witness_PredicatesBeforeTheFirstSuccess : let s := at_ Block.reset [cmd 0x10#5] []
    s.blk = Block.reset ∧ (∃ t, runTicks 1 s = .next t) ∧
      ∀ k u, k ≤ 1 → runTicks k s = .next u → u.blk.result ≠ .success := by
  refine ⟨rfl, ⟨_, rfl⟩, ?_⟩
  intro k u hk h
  obtain rfl | rfl : k = 0 ∨ k = 1 := by omega
  · cases h
    decide
  · cases h
    decide

theorem witness_PollIsAcceptedInIdle : State.reset.blk.phase = .idle := rfl

theorem witness_PollWhileBusyIsRefused :
    let s := at_ (decBlock vd3) [cmd 0x10#5] []
    s.blk.phase ≠ .idle ∧ s.host.rst = false ∧ s.host.presentsPoll = true := by decide

theorem witness_QueryTickOnlyAddsTheAnswer :
    Instr.stickX ≠ .poll ∧ ∃ u, step (at_ (decBlock vd3) [] []).silenced = .next u := ⟨by decide, _, rfl⟩

theorem witness_ReservedWordOnlyRaisesRspErr_query : (0x0E#5 = 0x0E#5 ∨ 0x0E#5 = 0x0F#5 ∨ 0x14 ≤ (0x0E#5).toNat) ∧
    ∃ u, step (at_ (reqBlock 0) [] []).silenced = .next u := ⟨by decide, _, rfl⟩

theorem witness_ReservedWordOnlyRaisesRspErr_0F : (0x0F#5 = 0x0E#5 ∨ 0x0F#5 = 0x0F#5 ∨ 0x14 ≤ (0x0F#5).toNat) ∧
    ∃ u, step (at_ vq1 [] []).silenced = .next u := ⟨by decide, _, rfl⟩

theorem witness_ReservedWordOnlyRaisesRspErr_14 : (0x14#5 = 0x0E#5 ∨ 0x14#5 = 0x0F#5 ∨ 0x14 ≤ (0x14#5).toNat) ∧
    ∃ u, step (at_ (capBlock .waitLow 0 0) [] [true]).silenced = .next u := ⟨by decide, _, rfl⟩

theorem witness_StepShowsTheOutputsOfTheTick : ∃ t, step (at_ vq1 [cmd 0x11#5] []) = .next t := ⟨_, rfl⟩

theorem witness_IdleTick_poll : let s := at_ vq1 [cmd 0x10#5] []
    s.host.rst = false ∧ s.blk.phase = .idle ∧ s.host.presentsPoll = true := by decide

theorem witness_IdleTick_other : let s := at_ vq1 [cmd 0x11#5] []
    s.host.rst = false ∧ s.blk.phase = .idle ∧ s.host.presentsPoll = false := by decide

theorem witness_RequestPhase_tick : let s := at_ (reqBlock 34) [cmd 0x07#5] []
    s.host.calm = true ∧ s.blk.phase = .req ∧ s.blk.reqPos + 1 = nReq s.params := by decide

theorem witness_RequestPhase_run : let s := at_ vq1 [cmd 0x10#5, cmd 0x07#5] []
    s.params.wellFormed = true ∧ s.blk.phase = .idle ∧ s.pollsOnce = true ∧ 34 < nReq s.params := by decide

theorem witness_WaitLowTick : let s := at_ (capBlock .waitLow 32 63) [cmd 0x0E#5] [true]
    s.host.calm = true ∧ s.blk.phase = .cap ∧ s.blk.sub = .waitLow := by decide

theorem witness_DelaySamples_tick : let s := at_ (capBlock .delay 32 2) [] [true]
    s.host.calm = true ∧ s.blk.phase = .cap ∧ s.blk.sub = .delay ∧ s.blk.bitIdx ≤ 32 ∧
      s.blk.timer = s.params.tSample := by decide

theorem witness_DelaySamples_run : let s := at_ (capBlock .delay 0 1) [] [true, false]
    s.calm = true ∧ s.blk.phase = .cap ∧ s.blk.sub = .delay ∧ s.blk.bitIdx ≤ 32 ∧
      s.blk.timer ≤ s.params.tSample ∧ 1 ≤ s.params.tSample - s.blk.timer := by decide

theorem witness_SampleAboveTheSlotSpace : let s := at_ (capBlock .delay 33 2) [] [true]
    s.host.calm = true ∧ s.blk.phase = .cap ∧ s.blk.sub = .delay ∧ s.blk.timer = s.params.tSample ∧
      32 < s.blk.bitIdx := by decide

theorem witness_WaitHighTick : let s := at_ (capBlock .waitHigh 33 63) [] [true]
    s.host.calm = true ∧ s.blk.phase = .cap ∧ s.blk.sub = .waitHigh := by decide

theorem witness_DecodeTick : let s := at_ (decBlock vd3) [cmd 0x13#5] []
    s.host.calm = true ∧ s.blk.phase = .dec := by decide

theorem witness_ResetTick : (at_ (capBlock .delay 5 1) [rstPort] []).host.rst = true := rfl

theorem witness_QueriesAfterReset : State.reset.blk = Block.reset ∧ Instr.pollResult ≠ .poll ∧ Instr.aDown ≠ .poll := by
  decide

theorem witness_RequestDrivesTheWave : let s := at_ vq1 [cmd 0x10#5, cmd 0x07#5] []
    s.params.wellFormed = true ∧ s.blk.phase = .idle ∧ s.pollsOnce = true ∧ 34 < nReq s.params := by decide

theorem witness_RequestWaveEndsReleased : Params.wellFormed { Params.default with reqPulses := [⟨1, 1⟩] } = true := by
  decide

theorem witness_LineReleased_outside : (at_ (capBlock .waitLow 0 0) [] []).blk.phase ≠ .req := by decide

theorem witness_LineReleased_last : let s := at_ (reqBlock 34) [] []
    s.params.wellFormed = true ∧ s.blk.reqPos + 1 = nReq s.params ∧ s.blk.phase ≠ .cap := by decide

/-- Parameters with short windows, so that a witness stays small. -/
def short (hard : Bool) : Params := { Params.default with tTimeout := 2, reqPulses := [⟨1, 1⟩], hardened := hard }

theorem witness_WaitLowTimesOut : let s := { at_ (capBlock .waitLow 4 0) [] [true, true] with params := short true }
    s.inv = true ∧ s.calm = true ∧ s.blk.phase = .cap ∧ s.blk.sub = .waitLow ∧ s.blk.timer = 0 ∧
      (∀ k, k < s.params.tTimeout → s.lineAt k = true) ∧ 1 < s.params.tTimeout := by decide

theorem witness_LineHeldLow_legacy :
    let s := { at_ (capBlock .waitHigh 1 0) [] [false, false] with params := short false }
    s.params.hardened = false ∧ s.calm = true ∧ s.blk.phase = .cap ∧ s.blk.sub = .waitHigh ∧
      ∀ k, k < 2 → s.lineAt k = false := by decide

theorem witness_LineHeldLow_hardened :
    let s := { at_ (capBlock .waitHigh 33 0) [] [false, false] with params := short true }
    s.params.wellFormed = true ∧ s.params.hardened = true ∧ s.calm = true ∧ s.blk.phase = .cap ∧
      s.blk.sub = .waitHigh ∧ s.blk.timer = 0 ∧ ∀ k, k < s.params.tTimeout → s.lineAt k = false := by decide

/-- A hung block with `h` presented after one more tick. -/
def hung (h : HostPort) : State :=
  { at_ (capBlock .waitHigh 1 0) [cmd 0x07#5, h] [false, false] with params := short false }

theorem witness_LegacyHang : ∀ h ∈ [rstPort, cmd 0x10#5, cmd 0x07#5],
    (hung h).params.hardened = false ∧ (hung h).blk.phase = .cap ∧ (hung h).blk.sub = .waitHigh ∧
      (∀ k, k < 2 → (hung h).lineAt k = false) ∧ (∀ p ∈ (hung h).hostQ.take 1, p.rst = false) := by decide

theorem witness_LegacyHang_run_reset : ∃ t, runTicks 1 (hung rstPort) = .next t ∧ t.host.rst = true := ⟨_, rfl, rfl⟩

theorem witness_LegacyHang_run_poll : ∃ t, runTicks 1 (hung (cmd 0x10#5)) = .next t ∧ t.host.rst = false ∧
    t.host.presentsPoll = true := ⟨_, rfl, rfl, rfl⟩

theorem witness_LegacyHang_run_other : ∃ t, runTicks 1 (hung (cmd 0x07#5)) = .next t ∧ t.host.rst = false ∧
    t.host.presentsPoll = false := ⟨_, rfl, rfl, rfl⟩

theorem witness_PulseWidth_one : let s := at_ (capBlock .waitLow 0 3) [] [false, false, true]
    s.params.wellFormed = true ∧ s.calm = true ∧ s.blk.phase = .cap ∧ s.blk.sub = .waitLow ∧ s.blk.bitIdx ≤ 32 ∧
      (∀ k, k < 2 → s.lineAt k = false) ∧ (∀ k, k ≤ s.params.tSample → 2 ≤ k → s.lineAt k = true) ∧
      2 = s.params.tSample := by decide

theorem witness_PulseWidth_zero : let s := at_ (capBlock .waitLow 32 0) [] [false, false, false]
    s.params.wellFormed = true ∧ s.calm = true ∧ s.blk.phase = .cap ∧ s.blk.sub = .waitLow ∧ s.blk.bitIdx ≤ 32 ∧
      (∀ k, k < 3 → s.lineAt k = false) ∧ (∀ k, k ≤ s.params.tSample → 3 ≤ k → s.lineAt k = true) ∧
      3 = s.params.tSample + 1 := by decide

theorem witness_SilentController (hard : Bool) :
    let s := { at_ vq1 [cmd 0x10#5] [false, false, false, true, true] with params := short hard }
    s.params.wellFormed = true ∧ s.blk.phase = .idle ∧ s.pollsOnce = true ∧
      ∀ k, nReq s.params < k → k ≤ nReq s.params + s.params.tTimeout → s.lineAt k = true := by
  refine ⟨by cases hard <;> decide, rfl, rfl, ?_⟩
  intro k h1 h2
  have h3 : 2 < k := h1
  have h4 : k ≤ 4 := h2
  obtain rfl | rfl : k = 3 ∨ k = 4 := by omega
  · rfl
  · rfl

/-- The frame of vector V-D3, 33 cells of four ticks: a 1 is one tick low and three high, a 0 is three low and one
high (the widths of 30_encoding.md section 4). -/
def vd3Cells : List CellWave := vd3.map fun b => if b then ⟨1, 3⟩ else ⟨3, 1⟩

theorem witness_WellTimedFrame :
    let p := short true
    let s := { at_ vq1 [cmd 0x10#5] ([true, true, true] ++ (frameLevels 1 vd3Cells ++ [])) with params := p }
    s.params.wellFormed = true ∧ s.blk.phase = .idle ∧ s.pollsOnce = true ∧
      [true, true, true].length = 1 + nReq s.params ∧ vd3Cells.length = 33 ∧ 1 < s.params.tTimeout ∧
      (∀ c ∈ vd3Cells, c.wellTimed s.params = true) ∧ (∀ c ∈ vd3Cells.take 32, c.gapInWindow s.params = true) ∧
      ∀ i : Fin 32, (vd3Cells.getD i.val ⟨0, 0⟩).bit s.params = frameBit ⟨0x90, 0x20, 0x05, 0xFD⟩ i := by decide

theorem witness_Pack8 : 24 + 8 ≤ 33 ∧ 25 + 8 ≤ 33 ∧
    ∀ i : Fin 33, (decBlock vd3).raw[i.val] = 0x00#8 ∨ (decBlock vd3).raw[i.val] = 0x01#8 := by decide

theorem witness_StopSlot : let s := at_ (decBlock vd3) [] []
    s.host.calm = true ∧ s.blk.phase = .dec := by decide

theorem witness_DecodeIsABijection :
    (∀ i : Fin 32, (decBlock vd3).raw[i.val] = if frameBit ⟨0x90, 0x20, 0x05, 0xFD⟩ i then 0x01#8 else 0x00#8) ∧
    ∀ i : Fin 32, (decBlock vd3).raw[i.val] = 0x00#8 ∨ (decBlock vd3).raw[i.val] = 0x01#8 := by decide

theorem witness_ZeroBuffer : let s := at_ (decBlock []) [] []
    s.host.calm = true ∧ s.blk.phase = .dec ∧ ∀ i : Fin 32, s.blk.raw[i.val] = 0x00#8 := by decide

theorem witness_UnnamedBits : Instr.lBumperDown ≠ .poll ∧ 0xE0#8 &&& 0x3F#8 = vq1.snap.data2 &&& 0x3F#8 := by decide

theorem witness_UnnamedBits_step : 0xE0#8 &&& 0x3F#8 = vq1.snap.data2 &&& 0x3F#8 ∧
    ∃ t, step (at_ vq1 [cmd 0x0D#5] []) = .next t := ⟨by decide, _, rfl⟩

theorem witness_SnapshotWritten_reset : ∃ t, step (at_ vq1 [rstPort] []) = .next t ∧
    (at_ vq1 [rstPort] []).host.rst = true := ⟨_, rfl, rfl⟩

theorem witness_SnapshotWritten_decode : ∃ t, step (at_ (decBlock vd3) [] []) = .next t ∧
    (at_ (decBlock vd3) [] []).host.rst = false := ⟨_, rfl, rfl⟩

theorem witness_SnapshotWritten_other : ∃ t, step (at_ (reqBlock 0) [] []) = .next t ∧
    (at_ (reqBlock 0) [] []).host.rst = false := ⟨_, rfl, rfl⟩

theorem witness_ResultWritten_decode : ∃ t, step (at_ (decBlock vd3) [] []) = .next t ∧
    t.blk.result ≠ (at_ (decBlock vd3) [] []).blk.result := ⟨_, rfl, by decide⟩

theorem witness_ResultWritten_timeout : ∃ t, step (at_ (capBlock .waitLow 0 63) [] [true]) = .next t ∧
    t.blk.result ≠ (at_ (capBlock .waitLow 0 63) [] [true]).blk.result := ⟨_, rfl, by decide⟩

theorem witness_ResultWritten_reset : ∃ t, step (at_ vq1 [rstPort] []) = .next t ∧
    t.blk.result ≠ (at_ vq1 [rstPort] []).blk.result := ⟨_, rfl, by decide⟩

theorem witness_PollEnds_decode : ∃ t, step (at_ (decBlock vd3) [] []) = .next t ∧
    (at_ (decBlock vd3) [] []).busy = true ∧ t.busy = false := ⟨_, rfl, by decide, by decide⟩

theorem witness_PollEnds_timeout : ∃ t, step (at_ (capBlock .waitHigh 1 63) [] [false]) = .next t ∧
    (at_ (capBlock .waitHigh 1 63) [] [false]).busy = true ∧ t.busy = false := ⟨_, rfl, by decide, by decide⟩

theorem witness_PhaseTransitions : ∃ t, step (at_ (capBlock .waitHigh 33 0) [] [true]) = .next t ∧
    (at_ (capBlock .waitHigh 33 0) [] [true]).host.rst = false := ⟨_, rfl, rfl⟩

theorem witness_SlotsHoldZeroOrOne : ∃ t, (at_ (capBlock .delay 32 2) [] [true]).blk.slotsBinary = true ∧
    step (at_ (capBlock .delay 32 2) [] [true]) = .next t ∧
    t.blk.raw[32] ≠ (at_ (capBlock .delay 32 2) [] [true]).blk.raw[32] := ⟨_, by decide, rfl, by decide⟩

theorem witness_SlotsHoldZeroOrOne_poll : ∃ t, step (at_ { vq1 with raw := (decBlock vd3).raw } [cmd 0x10#5] []) = .next t ∧
    t.blk.raw[0] ≠ (decBlock vd3).raw[0] := ⟨_, rfl, by decide⟩

theorem witness_SlotsHoldZeroOrOne_reset : ∃ t, step (at_ (decBlock vd3) [rstPort] []) = .next t ∧
    t.blk.raw[0] ≠ (decBlock vd3).raw[0] := ⟨_, rfl, by decide⟩

theorem witness_ParametersNeverChange : ∃ t, runTicks 2 (at_ (reqBlock 0) [cmd 0x07#5, rstPort] []) = .next t := ⟨_, rfl⟩

theorem witness_ChecksumMismatch : State.reset.blk.result ≠ .checksumMismatch ∧ ∃ t, runTicks 2 State.reset = .next t :=
  ⟨by decide, _, rfl⟩

theorem witness_TickLength : ∃ t, runTicks 2 (at_ vq1 [cmd 0x10#5, cmd 0x11#5] []) = .next t := ⟨_, rfl⟩

theorem witness_CalmHost : let s := at_ (reqBlock 0) [cmd 0x07#5, cmd 0x0E#5] []
    s.calm = true ∧ [cmd 0x13#5].all HostPort.calm = true ∧ ∃ t, runTicks 2 s = .next t := ⟨by decide, by decide, _, rfl⟩

theorem witness_QueriesAreIdempotent : let s := at_ vq1 [] []
    Instr.aDown ≠ .poll ∧ Instr.aDown ≠ .pollResult ∧ (∃ t, runTicks 1 s = .next t) ∧
      ∀ k u, k < 1 → runTicks k s = .next u → u.host.rst = false ∧ u.blk.phase ≠ .dec := by
  refine ⟨by decide, by decide, ⟨_, rfl⟩, ?_⟩
  intro k u hk h
  obtain rfl : k = 0 := by omega
  cases h
  decide

theorem witness_QueriesAreIdempotent_result : let s := at_ vq1 [] []
    (∃ t, runTicks 1 s = .next t) ∧ ∀ k u u', k < 1 → runTicks k s = .next u → step u = .next u' →
      u.host.rst = false ∧ ¬(u.busy = true ∧ u'.busy = false) := by
  refine ⟨⟨_, rfl⟩, ?_⟩
  intro k u u' hk h _
  obtain rfl : k = 0 := by omega
  cases h
  exact ⟨rfl, by simp [State.busy, at_, vq1, withSnap, Block.reset]⟩

theorem witness_StepKeepsTheInvariant : ∃ t, (at_ (capBlock .delay 32 2) [] [true]).inv = true ∧
    step (at_ (capBlock .delay 32 2) [] [true]) = .next t := ⟨_, by decide, rfl⟩

theorem witness_InvariantStatesDoNotFault : (at_ (capBlock .delay 32 2) [] [true]).inv = true := by decide

theorem witness_StepRefuses : ∃ r, step (at_ (capBlock .waitLow 0 0) [cmd 0x10#5] [true]) = .refused r := ⟨_, rfl⟩

theorem witness_HardenedPollEnds : let s := at_ (capBlock .waitHigh 33 63) [] []
    s.inv = true ∧ s.params.hardened = true ∧ s.calm = true ∧ s.busy = true := by decide

end Sys2Proof.Tests
end

/-! PROOFS. The statements of 10_state.md: what the snapshot's unnamed bits can reach, who writes the snapshot, and
the values of the reset table. First the facts they share: the inversion of one tick, the bits that the decode packs,
and the snapshot through the step rules. -/

namespace Sys2Proof.Machine

/-! ### One tick, taken apart -/

/-- `s'` is `s` after what the host presents in this tick has acted, before the step rule of the phase does. -/
inductive PresentedEffect (s : State) : State → Prop where
  | silent (h : s.presented = none) : PresentedEffect s s.noCommand
  | reserved {w : CmdWord} {e : DecodeError} (h : s.presented = some w) (hw : decodeWord w = .error e) :
      PresentedEffect s s.illegalCommand
  | operation {w : CmdWord} {i : Instr} {s' : State} (h : s.presented = some w) (hw : decodeWord w = .ok i)
      (he : exec i s = .next s') : PresentedEffect s s'

theorem step_of_rst {s : State} (h : s.host.rst = true) : step s = .next (resetTick s) := by simp [step, h]

theorem step_of_presentedEffect {s s' : State} (h : s.host.rst = false) (he : PresentedEffect s s') :
    step s = endTick s s' := by
  cases he with
  | silent hp => simp [step, h, hp]
  | reserved hp hw => simp [step, h, hp, hw]
  | operation hp hw he => simp [step, h, hp, hw, he]

theorem endTick_of_phaseTick {s s' : State} {b : Block}
    (h : phaseTick s.blk.phase s.params s.lineIn s'.blk = .next b) : endTick s s' = .next (closeTick s s' b) := by
  simp [endTick, h]

theorem presentedEffect_of_step_next {s t : State} (h : s.host.rst = false) (hs : step s = .next t) :
    ∃ s', PresentedEffect s s' ∧ endTick s s' = .next t := by
  cases hp : s.presented with
  | none => exact ⟨_, .silent hp, by simpa [step, h, hp] using hs⟩
  | some w =>
    cases hw : decodeWord w with
    | error e => exact ⟨_, .reserved hp hw, by simpa [step, h, hp, hw] using hs⟩
    | ok i =>
      cases he : exec i s with
      | next s' => exact ⟨s', .operation hp hw he, by simpa [step, h, hp, hw, he] using hs⟩
      | fault f => simp [step, h, hp, hw, he] at hs
      | refused r => simp [step, h, hp, hw, he] at hs

/-- The two ways a tick has a next state (R129): it is the reset tick, or what is presented acts, then the step rule
of the phase, and the tick closes. -/
theorem step_next_iff {s t : State} :
    step s = .next t ↔
      (s.host.rst = true ∧ t = resetTick s) ∨
      (s.host.rst = false ∧ ∃ s' b, PresentedEffect s s' ∧
        phaseTick s.blk.phase s.params s.lineIn s'.blk = .next b ∧ t = closeTick s s' b) := by
  constructor
  · intro hs
    cases hr : s.host.rst with
    | true =>
      rw [step_of_rst hr] at hs
      cases hs
      exact .inl ⟨rfl, rfl⟩
    | false =>
      obtain ⟨s', he, ht⟩ := presentedEffect_of_step_next hr hs
      obtain ⟨b, hb, rfl⟩ := endTick_next ht
      exact .inr ⟨rfl, s', b, he, hb, rfl⟩
  · rintro (⟨hr, rfl⟩ | ⟨hr, s', b, he, hb, rfl⟩)
    · exact step_of_rst hr
    · rw [step_of_presentedEffect hr he, endTick_of_phaseTick hb]

/-- What is presented leaves the block as it was, unless it is an accepted `poll()` (R70, R95, R125). -/
theorem PresentedEffect.blk_cases {s s' : State} (h : PresentedEffect s s') :
    s'.blk = s.blk ∨ (s.blk.phase = .idle ∧ s'.blk = acceptPoll s.blk) := by
  cases h with
  | silent hp => exact .inl rfl
  | reserved hp hw => exact .inl rfl
  | @operation w i _ hp hw he =>
    by_cases hi : i = .poll
    · subst hi
      obtain ⟨hidle, ha⟩ | ⟨-, hr⟩ := execPoll_cases s
      · rw [ha] at he
        cases he
        exact .inr ⟨hidle, rfl⟩
      · rw [hr] at he
        cases he
    · obtain ⟨a, ha⟩ := exec_query i s hi
      rw [ha] at he
      cases he
      exact .inl rfl

/-- The step rule after what is presented: an accepted `poll()` is all there is to its tick, and in every other tick
the rule acts on the block the tick began with. -/
theorem PresentedEffect.phaseTick_cases {s s' : State} {p : Params} {l : Bool} {c : Block} (he : PresentedEffect s s')
    (h : phaseTick s.blk.phase p l s'.blk = .next c) :
    (s.blk.phase = .idle ∧ c = acceptPoll s.blk) ∨ phaseTick s.blk.phase p l s.blk = .next c := by
  obtain hsame | ⟨hidle, hacc⟩ := he.blk_cases
  · exact .inr (hsame ▸ h)
  · rw [hidle, hacc] at h
    cases h
    exact .inl ⟨hidle, rfl⟩

/-- The block after a tick: the reset block, the block of an accepted `poll()`, or what the step rule of the phase
makes of the block. -/
theorem step_blk_cases {s t : State} (h : step s = .next t) :
    (s.host.rst = true ∧ t.blk = Block.reset) ∨
    (s.host.rst = false ∧ s.blk.phase = .idle ∧ t.blk = acceptPoll s.blk) ∨
    (s.host.rst = false ∧ phaseTick s.blk.phase s.params s.lineIn s.blk = .next t.blk) := by
  obtain ⟨hr, rfl⟩ | ⟨hr, s', b, he, hb, rfl⟩ := step_next_iff.1 h
  · exact .inl ⟨hr, rfl⟩
  · exact .inr ((he.phaseTick_cases hb).imp (fun hacc => ⟨hr, hacc⟩) fun hrule => ⟨hr, hrule⟩)

/-! ### The snapshot through the step rules -/

@[simp] theorem raiseTimeout_snap (p : Params) (b : Block) : (raiseTimeout p b).snap = b.snap := by
  unfold raiseTimeout; split <;> rfl

@[simp] theorem reqTick_snap (p : Params) (b : Block) : (reqTick p b).snap = b.snap := by
  unfold reqTick; split <;> rfl

@[simp] theorem waitLowTick_snap (p : Params) (l : Bool) (b : Block) : (waitLowTick p l b).snap = b.snap := by
  unfold waitLowTick; split_ifs <;> simp

@[simp] theorem waitHighTick_snap (p : Params) (l : Bool) (b : Block) : (waitHighTick p l b).snap = b.snap := by
  unfold waitHighTick; split_ifs <;> simp

/-- No step rule but that of DEC writes the snapshot (R20). -/
theorem phaseTick_snap_of_ne_dec {p : Params} {l : Bool} {b c : Block} (hd : b.phase ≠ .dec)
    (h : phaseTick b.phase p l b = .next c) : c.snap = b.snap := by
  obtain ⟨-, rfl⟩ | ⟨-, rfl⟩ | ⟨hdec, -⟩ | ⟨-, -, rfl⟩ | ⟨-, -, rfl⟩ | ⟨-, -, -, rfl⟩ | ⟨-, -, -, -, rfl⟩ :=
    phaseTick_next h
  · rfl
  · exact reqTick_snap p b
  · exact absurd hdec hd
  · exact waitLowTick_snap p l b
  · exact waitHighTick_snap p l b
  · rfl
  · rfl

/-- Outside DEC no tick without reset changes the snapshot. -/
theorem PresentedEffect.snap_of_ne_dec {s s' : State} {p : Params} {l : Bool} {c : Block} (he : PresentedEffect s s')
    (hd : s.blk.phase ≠ .dec) (h : phaseTick s.blk.phase p l s'.blk = .next c) : c.snap = s.blk.snap := by
  obtain ⟨-, rfl⟩ | hrule := he.phaseTick_cases h
  · exact acceptPoll_snap s.blk
  · exact phaseTick_snap_of_ne_dec hd hrule

/-- The step rule of DEC writes the whole snapshot (R89). -/
theorem phaseTick_snap_of_dec {p : Params} {l : Bool} {b c : Block} (h : phaseTick .dec p l b = .next c) :
    c.snap = packSnapshot b.raw := by
  cases h
  rfl

/-! ### The packed bits -/

theorem slotBit_of_lt (raw : Vector Byte 33) (i : Nat) (h : i < 33) : slotBit raw i = raw[i].getLsbD 0 := by
  simp [slotBit, readSlot, byteBit, h]

/-- Bit `7 - j` of `pack8(raw, k)` is bit 0 of slot `k + j` (R90). -/
theorem pack8_getLsbD (raw : Vector Byte 33) (k j : Nat) (h : j < 8) :
    (pack8 raw k).getLsbD (7 - j) = slotBit raw (k + j) := by
  unfold pack8
  interval_cases j <;> simp only [BitVec.getLsbD_append, BitVec.getLsbD_ofBool] <;> simp

/-! ### The named bits of `data2` -/

/-- The two values of `data2` agree in the six bits that DOC names, bits 5 to 0 (R23, R25). -/
def NamedBitsAgree (v d : Byte) : Prop := v &&& 0x3F#8 = d &&& 0x3F#8

theorem NamedBitsAgree.byteBit {v d : Byte} (h : NamedBitsAgree v d) {k : Nat} (hk : k < 6) :
    byteBit v k = byteBit d k := by
  have hbit := congrArg (BitVec.getLsbD · k) h
  have hmask : (0x3F#8).getLsbD k = true := by interval_cases k <;> rfl
  simpa [hmask, Machine.byteBit] using hbit

/-- The block of `State.withData2`: the same block with another `data2`. -/
def Block.withData2 (b : Block) (v : Byte) : Block := { b with snap := { b.snap with data2 := v } }

theorem State.withData2_blk_eq (s : State) (v : Byte) : (s.withData2 v).blk = s.blk.withData2 v := rfl

theorem decTick_withData2 (b : Block) (v : Byte) : decTick (b.withData2 v) = decTick b := rfl

theorem raiseTimeout_withData2 (p : Params) (b : Block) (v : Byte) :
    raiseTimeout p (b.withData2 v) = (raiseTimeout p b).withData2 v := by
  simp only [raiseTimeout, apply_ite (Block.withData2 · v)]
  rfl

theorem reqTick_withData2 (p : Params) (b : Block) (v : Byte) :
    reqTick p (b.withData2 v) = (reqTick p b).withData2 v := by
  simp only [reqTick, apply_ite (Block.withData2 · v)]
  rfl

theorem waitLowTick_withData2 (p : Params) (l : Bool) (b : Block) (v : Byte) :
    waitLowTick p l (b.withData2 v) = (waitLowTick p l b).withData2 v := by
  simp only [waitLowTick, raiseTimeout_withData2, apply_ite (Block.withData2 · v)]
  rfl

theorem waitHighTick_withData2 (p : Params) (l : Bool) (b : Block) (v : Byte) :
    waitHighTick p l (b.withData2 v) = (waitHighTick p l b).withData2 v := by
  simp only [waitHighTick, raiseTimeout_withData2, apply_ite (Block.withData2 · v)]
  rfl

theorem writeSlot_withData2 {b c : Block} {i : Nat} {x : Byte} (v : Byte) (h : writeSlot b i x = .next c) :
    writeSlot (b.withData2 v) i x = .next (c.withData2 v) := by
  by_cases hi : i < 33
  · rw [writeSlot_of_lt _ _ _ hi] at h ⊢
    cases h
    rfl
  · rw [writeSlot_of_ge _ _ _ (Nat.le_of_not_lt hi)] at h
    cases h

theorem delayTick_withData2 {p : Params} {l : Bool} {b c : Block} (v : Byte) (h : delayTick p l b = .next c) :
    delayTick p l (b.withData2 v) = .next (c.withData2 v) := by
  have htimer : (b.withData2 v).timer = b.timer := rfl
  by_cases ht : b.timer = p.tSample
  · rw [delayTick, if_pos ht] at h
    rw [delayTick, htimer, if_pos ht]
    exact writeSlot_withData2 v h
  · rw [delayTick, if_neg ht] at h
    rw [delayTick, htimer, if_neg ht]
    cases h
    rfl

/-- A step rule that does not decode carries `data2` along and does not read it. -/
theorem phaseTick_withData2_of_ne_dec {ph : Phase} {p : Params} {l : Bool} {b c : Block} (v : Byte) (hd : ph ≠ .dec)
    (h : phaseTick ph p l b = .next c) : phaseTick ph p l (b.withData2 v) = .next (c.withData2 v) := by
  cases ph with
  | idle => cases h; rfl
  | req => cases h; exact congrArg _ (reqTick_withData2 p b v)
  | dec => exact absurd rfl hd
  | cap =>
    simp only [phaseTick, capTick, show (b.withData2 v).sub = b.sub from rfl] at h ⊢
    cases hs : b.sub <;> simp only [hs] at h ⊢
    case waitLow => cases h; exact congrArg _ (waitLowTick_withData2 p l b v)
    case delay => exact delayTick_withData2 v h
    case waitHigh => cases h; exact congrArg _ (waitHighTick_withData2 p l b v)

/-! ### The answers and the outputs under another `data2` -/

/-- A predicate over a named bit of `data2` answers the same under another `data2` with the same named bits. -/
theorem answerBit_withData2 {s : State} {v : Byte} (hv : NamedBitsAgree v s.blk.snap.data2) {k : Nat} (hk : k < 6) :
    answerBit v k (s.withData2 v) = .next ((s.withData2 v).answered (zext8 (byteBit s.blk.snap.data2 k))) := by
  rw [← hv.byteBit hk]
  rfl

/-- Every query answers one byte, the same under another `data2` with the same named bits: the six predicates of
`data2` read a named bit each, and no other query reads `data2` (R104 to R109). -/
theorem exec_query_withData2 {s : State} {v : Byte} (i : Instr) (hi : i ≠ .poll)
    (hv : NamedBitsAgree v s.blk.snap.data2) :
    ∃ a, exec i s = .next (s.answered a) ∧ exec i (s.withData2 v) = .next ((s.withData2 v).answered a) := by
  cases i with
  | poll => exact absurd rfl hi
  | cRightDown => exact ⟨_, rfl, answerBit_withData2 hv (k := 0) (by decide)⟩
  | cLeftDown => exact ⟨_, rfl, answerBit_withData2 hv (k := 1) (by decide)⟩
  | cDownDown => exact ⟨_, rfl, answerBit_withData2 hv (k := 2) (by decide)⟩
  | cUpDown => exact ⟨_, rfl, answerBit_withData2 hv (k := 3) (by decide)⟩
  | rBumperDown => exact ⟨_, rfl, answerBit_withData2 hv (k := 4) (by decide)⟩
  | lBumperDown => exact ⟨_, rfl, answerBit_withData2 hv (k := 5) (by decide)⟩
  | dRightDown | dLeftDown | dDownDown | dUpDown | startDown | zDown | bDown | aDown | stickX | stickY
  | pollResult => exact ⟨_, rfl, rfl⟩

/-- `poll()` neither reads nor writes `data2`. -/
theorem exec_poll_withData2 {s s' : State} (v : Byte) (h : exec .poll s = .next s') :
    exec .poll (s.withData2 v) = .next (s'.withData2 v) := by
  obtain ⟨hidle, ha⟩ | ⟨-, hr⟩ := execPoll_cases s
  · obtain ⟨-, ha'⟩ | ⟨hbusy, -⟩ := execPoll_cases (s.withData2 v)
    · rw [ha] at h
      cases h
      exact ha'
    · exact absurd hidle hbusy
  · rw [hr] at h
    cases h

theorem PresentedEffect.withData2 {s s' : State} {v : Byte} (hv : NamedBitsAgree v s.blk.snap.data2)
    (h : PresentedEffect s s') : PresentedEffect (s.withData2 v) (s'.withData2 v) := by
  cases h with
  | silent hp => exact .silent hp
  | reserved hp hw => exact .reserved hp hw
  | @operation w i _ hp hw he =>
    refine .operation hp hw ?_
    by_cases hi : i = .poll
    · subst hi
      exact exec_poll_withData2 v he
    · obtain ⟨a, ha, ha'⟩ := exec_query_withData2 i hi hv
      rw [ha] at he
      cases he
      exact ha'

/-- The words that read bits 6 and 7 of `data2` are reserved, so the response table does not read them (R25, R60). -/
theorem responseOf_withData2 {b : Block} {v : Byte} (hv : NamedBitsAgree v b.snap.data2) (w : CmdWord) :
    responseOf (b.withData2 v) w = responseOf b w := by
  by_cases hc : cmdCls w = true
  · simp only [responseOf, hc, if_true]
    rfl
  · cases hs : cmdBsel w with
    | false => simp only [responseOf, hc, hs, Snapshot.selected, Block.withData2, Bool.false_and]; rfl
    | true =>
      by_cases hk : 6 ≤ cmdBit w
      · simp [responseOf, hc, hs, hk]
      · simp [responseOf, hc, hs, hk, Snapshot.selected, Block.withData2, hv.byteBit (Nat.lt_of_not_le hk)]

theorem outputs_withData2 {s : State} {v : Byte} (hv : NamedBitsAgree v s.blk.snap.data2) :
    (s.withData2 v).outputs = s.outputs := by
  have hresp := responseOf_withData2 hv s.host.cmdOp
  calc (s.withData2 v).outputs
      = { s.outputs with
          rspData := if s.host.cmdValid then (responseOf (s.blk.withData2 v) s.host.cmdOp).1 else 0x00#8
          rspErr := s.host.cmdValid && (responseOf (s.blk.withData2 v) s.host.cmdOp).2 } := rfl
    _ = s.outputs := by rw [hresp]; rfl

/-! ### The step under another `data2` -/

theorem resetTick_withData2 {s : State} {v : Byte} (hv : NamedBitsAgree v s.blk.snap.data2) :
    resetTick (s.withData2 v) = (resetTick s).withData2 0x00#8 := by
  rw [resetTick, outputs_withData2 hv]
  rfl

/-- The step rule of DEC writes `data2` anew; every other one carries it along. Either way the next blocks agree but
for the unnamed bits. -/
theorem phaseTick_withData2 {p : Params} {l : Bool} {s s' : State} {c : Block} {v : Byte}
    (he : PresentedEffect s s') (hv : NamedBitsAgree v s.blk.snap.data2)
    (h : phaseTick s.blk.phase p l s'.blk = .next c) :
    ∃ v', NamedBitsAgree v' c.snap.data2 ∧
      phaseTick s.blk.phase p l (s'.blk.withData2 v) = .next (c.withData2 v') := by
  by_cases hd : s.blk.phase = .dec
  · rw [hd] at h ⊢
    cases h
    exact ⟨_, rfl, congrArg Host.Outcome.next (decTick_withData2 s'.blk v)⟩
  · exact ⟨v, he.snap_of_ne_dec hd h ▸ hv, phaseTick_withData2_of_ne_dec v hd h⟩

/-- A tick and the same tick under another `data2` with the same named bits end in states that again differ in the
unnamed bits of `data2` at most, outputs included (R25). -/
theorem step_withData2 {s t : State} {v : Byte} (hv : NamedBitsAgree v s.blk.snap.data2) (h : step s = .next t) :
    ∃ v', NamedBitsAgree v' t.blk.snap.data2 ∧ step (s.withData2 v) = .next (t.withData2 v') := by
  obtain ⟨hr, rfl⟩ | ⟨hr, s', b, he, hb, rfl⟩ := step_next_iff.1 h
  · exact ⟨0x00#8, rfl, step_next_iff.2 (.inl ⟨hr, (resetTick_withData2 hv).symm⟩)⟩
  · obtain ⟨v', hv', hb'⟩ := phaseTick_withData2 he hv hb
    exact ⟨v', hv', step_next_iff.2 (.inr ⟨hr, s'.withData2 v, b.withData2 v', he.withData2 hv, hb', rfl⟩)⟩

end Sys2Proof.Machine

namespace Sys2Proof.Proofs.StateRecord

open Sys2Proof Sys2Proof.Machine

/-- Settles O39: the bits are slots 8 and 9 by the packing, no query reads them, and the step carries a change of them
to a change of them. -/
theorem unnamedBitsAreStoredAndUnread : Obligations.UnnamedBitsAreStoredAndUnread := by
  refine ⟨fun raw => ⟨?_, ?_⟩, fun s i v hi hv => exec_query_withData2 i hi hv, fun s t v hv h => step_withData2 hv h⟩
  · exact (pack8_getLsbD raw 8 0 (by decide)).trans (slotBit_of_lt raw 8 (by decide))
  · exact (pack8_getLsbD raw 8 1 (by decide)).trans (slotBit_of_lt raw 9 (by decide))

/-- Settles O40: of the three things a tick can do to the block, the accept of a `poll()` keeps the snapshot, and of
the step rules only that of DEC writes it. -/
theorem snapshotIsWrittenByDecodeAndResetOnly : Obligations.SnapshotIsWrittenByDecodeAndResetOnly := by
  intro s t h
  obtain ⟨hr, hreset⟩ | ⟨hr, hidle, haccept⟩ | ⟨hr, hrule⟩ := step_blk_cases h
  · refine ⟨fun _ => ?_, by simp [hr], by simp [hr]⟩
    rw [hreset]
    rfl
  · refine ⟨by simp [hr], by simp [hidle], fun _ _ => ?_⟩
    rw [haccept, acceptPoll_snap]
  · refine ⟨by simp [hr], fun _ hd => ?_, fun _ hd => phaseTick_snap_of_ne_dec hd hrule⟩
    rw [hd] at hrule
    exact phaseTick_snap_of_dec hrule

/-- Settles O23: the slots by the replicated vector of the reset block, the rest by reading its fields. -/
theorem resetStateHoldsTheListedValues : Obligations.ResetStateHoldsTheListedValues := by
  have hslots : ∀ (i : Nat) (h : i < 33), State.reset.blk.raw[i] = 0x00#8 :=
    fun i h => Vector.getElem_replicate h
  exact ⟨hslots, rfl, rfl, rfl, rfl, rfl, rfl, rfl, rfl, rfl, rfl, rfl, rfl⟩

end Sys2Proof.Proofs.StateRecord

/-! PROOFS. The statements of 40_poll_request.md: the accept and the refusal of `poll()`, the ticks of the request and
the wave on the line. First the facts they share: a tick closes with the outputs of the output table, so the step of a
tick with a calm host, of an accepted and of a refused `poll()` are one equation each. -/

namespace Sys2Proof.Machine

/-! ### The response of what is presented -/

/-- The only word of `poll()` (R59). -/
theorem decodeWord_eq_poll_iff (w : CmdWord) : decodeWord w = .ok .poll ↔ w = 0x10#5 := by
  revert w; decide

theorem encode_of_decodeWord {w : CmdWord} {i : Instr} (h : decodeWord w = .ok i) : encode i = w := by
  have hall : ∀ w : CmdWord, ((decodeWord w).map encode).toOption.getD w = w := by decide
  simpa [h, Except.map, Except.toOption] using hall w

/-- The words that do not decode, by their fields: format C with `fn` from 4 up, and format Q with bit 6 or 7 of
`data2` (R60). -/
theorem fields_of_reserved {w : CmdWord} {e : DecodeError} (h : decodeWord w = .error e) :
    (cmdCls w = true ∧ 4 ≤ cmdFn w) ∨ (cmdCls w = false ∧ cmdBsel w = true ∧ 6 ≤ cmdBit w) := by
  have hall : ∀ w : CmdWord, (decodeWord w).isOk = true ∨ (cmdCls w = true ∧ 4 ≤ cmdFn w) ∨
      (cmdCls w = false ∧ cmdBsel w = true ∧ 6 ≤ cmdBit w) := by decide
  exact (hall w).resolve_left (by simp [h, Except.isOk, Except.toBool])

/-- The output table shows IllegalCommand for a word that does not decode (R60, R61). -/
theorem responseOf_reserved {w : CmdWord} {e : DecodeError} (b : Block) (h : decodeWord w = .error e) :
    responseOf b w = (0x00#8, true) := by
  obtain ⟨hcls, hfn⟩ | ⟨hcls, hsel, hbit⟩ := fields_of_reserved h
  · obtain ⟨k, hk⟩ := Nat.exists_eq_add_of_le' hfn
    simp only [responseOf, hcls, if_true, hk]
  · simp [responseOf, hcls, hsel, hbit]

/-- A query answers what the output table shows for its word (R61). -/
theorem exec_query_responseOf (i : Instr) (s : State) (h : i ≠ .poll) :
    exec i s = .next (s.respond (responseOf s.blk (encode i)).1) := by
  cases i with
  | poll => exact absurd rfl h
  | _ => rfl

theorem responseOf_encode_err (i : Instr) (b : Block) : (responseOf b (encode i)).2 = false := by
  cases i <;> rfl

/-- An operation with a next state answers what the output table shows for its word, and beside that writes the block
at most. -/
theorem exec_next_eq {i : Instr} {s s' : State} (h : exec i s = .next s') :
    s' = { s with blk := s'.blk }.respond (responseOf s.blk (encode i)).1 := by
  by_cases hi : i = .poll
  · subst hi
    obtain ⟨-, ha⟩ | ⟨-, hr⟩ := execPoll_cases s
    · rw [ha] at h
      cases h
      rfl
    · rw [hr] at h
      cases h
  · rw [exec_query_responseOf i s hi] at h
    cases h
    rfl

theorem State.presented_eq_some_iff (s : State) (w : CmdWord) :
    s.presented = some w ↔ s.host.cmdValid = true ∧ s.host.cmdOp = w := by
  simp [State.presented]

theorem State.presented_eq_none_iff (s : State) : s.presented = none ↔ s.host.cmdValid = false := by
  simp [State.presented]

/-- Whatever is presented, the tick closes with the outputs of the output table and everything but the block as it
was (R34, R61). -/
theorem PresentedEffect.closeTick_eq_after {s s' : State} (h : PresentedEffect s s') (b : Block) :
    closeTick s s' b = s.after b := by
  cases h with
  | silent hp =>
    rw [State.presented_eq_none_iff] at hp
    simp [closeTick, State.after, State.outputs, hp]
  | reserved hp hw =>
    obtain ⟨hv, rfl⟩ := (State.presented_eq_some_iff s _).1 hp
    simp [closeTick, State.after, State.outputs, hv, responseOf_reserved s.blk hw]
  | operation hp hw he =>
    obtain ⟨hv, rfl⟩ := (State.presented_eq_some_iff s _).1 hp
    rw [exec_next_eq he, encode_of_decodeWord hw]
    have herr : (responseOf s.blk s.host.cmdOp).2 = false := encode_of_decodeWord hw ▸ responseOf_encode_err _ s.blk
    simp [closeTick, State.after, State.outputs, hv, herr]

/-! ### The step of a tick without reset -/

theorem step_of_presentedEffect_next {s s' : State} {b : Block} (hr : s.host.rst = false) (he : PresentedEffect s s')
    (hb : phaseTick s.blk.phase s.params s.lineIn s'.blk = .next b) : step s = .next (s.after b) := by
  rw [step_of_presentedEffect hr he, endTick_of_phaseTick hb, he.closeTick_eq_after]

theorem State.presented_of_presentsPoll {s : State} (h : s.host.presentsPoll = true) : s.presented = some 0x10#5 := by
  simpa [State.presented_eq_some_iff, HostPort.presentsPoll] using h

/-- What a calm host presents leaves the block as it was (R95, R125). -/
theorem exists_presentedEffect_of_not_presentsPoll {s : State} (h : s.host.presentsPoll = false) :
    ∃ s', PresentedEffect s s' ∧ s'.blk = s.blk := by
  cases hp : s.presented with
  | none => exact ⟨_, .silent hp, rfl⟩
  | some w =>
    cases hw : decodeWord w with
    | error e => exact ⟨_, .reserved hp hw, rfl⟩
    | ok i =>
      obtain ⟨hv, rfl⟩ := (State.presented_eq_some_iff s w).1 hp
      have hi : i ≠ .poll := by
        rintro rfl
        rw [decodeWord_eq_poll_iff] at hw
        simp [HostPort.presentsPoll, hv, hw] at h
      exact ⟨_, .operation hp hw (exec_query_responseOf i s hi), rfl⟩

/-- With a calm host the tick is the step rule of the phase and nothing else. -/
theorem step_of_calm {s : State} {b : Block} (hc : s.host.calm = true)
    (hb : phaseTick s.blk.phase s.params s.lineIn s.blk = .next b) : step s = .next (s.after b) := by
  obtain ⟨hr, hp⟩ := (calm_iff s.host).1 hc
  obtain ⟨s', he, hblk⟩ := exists_presentedEffect_of_not_presentsPoll hp
  exact step_of_presentedEffect_next hr he (hblk ▸ hb)

/-- A tick of IDLE that presents `poll()` is the accept and nothing else (R70, R73). -/
theorem step_of_poll_idle {s : State} (hr : s.host.rst = false) (hp : s.host.presentsPoll = true)
    (hidle : s.blk.phase = .idle) : step s = .next (s.after (acceptPoll s.blk)) := by
  obtain ⟨-, ha⟩ | ⟨hbusy, -⟩ := execPoll_cases s
  · exact step_of_presentedEffect_next hr
      (.operation (State.presented_of_presentsPoll hp) ((decodeWord_eq_poll_iff _).2 rfl) ha) (by rw [hidle]; rfl)
  · exact absurd hidle hbusy

theorem exec_poll_busy {s : State} (hbusy : s.blk.phase ≠ .idle) : exec .poll s = .refused .pollWhileBusy := by
  obtain ⟨hidle, -⟩ | ⟨-, hr⟩ := execPoll_cases s
  · exact absurd hidle hbusy
  · exact hr

/-- A tick that presents `poll()` while the block is busy is refused by name (R72). -/
theorem step_of_poll_busy {s : State} (hr : s.host.rst = false) (hp : s.host.presentsPoll = true)
    (hbusy : s.blk.phase ≠ .idle) : step s = .refused .pollWhileBusy := by
  simp [step, hr, State.presented_of_presentsPoll hp, (decodeWord_eq_poll_iff _).2, exec_poll_busy hbusy]

/-! ### The request wave -/

theorem pulseWave_getLast? {q : ReqPulse} (h : q.wellFormed = true) : (pulseWave q).getLast? = some false := by
  have hhigh : q.high ≠ 0 := by
    simp only [ReqPulse.wellFormed, Bool.and_eq_true, decide_eq_true_eq] at h
    omega
  simp [pulseWave, List.getLast?_append, List.getLast?_replicate, hhigh]

/-- The last pulse of a legal request ends with the line released (R9). -/
theorem reqWave_getLast? {p : Params} (h : p.wellFormed = true) : (reqWave p).getLast? = some false := by
  simp only [Params.wellFormed, Bool.and_eq_true, Bool.not_eq_true', List.isEmpty_eq_false_iff, List.all_eq_true] at h
  obtain ⟨⟨-, hne⟩, hall⟩ := h
  obtain ⟨init, q, hq⟩ := (List.eq_nil_or_concat p.reqPulses).resolve_left hne
  have hlast := pulseWave_getLast? (hall q (by simp [hq]))
  simp [reqWave, hq, List.getLast?_append, hlast]

theorem nReq_pos {p : Params} (h : p.wellFormed = true) : 0 < nReq p := by
  refine List.length_pos_iff.2 fun hnil => ?_
  have hlast := reqWave_getLast? h
  simp [hnil] at hlast

theorem State.lineDriveLow_of_ne_req {s : State} (h : s.blk.phase ≠ .req) : s.lineDriveLow = false := by
  simp [State.lineDriveLow, h]

theorem State.lineDriveLow_of_req {s : State} (h : s.blk.phase = .req) :
    s.lineDriveLow = (reqWave s.params).getD s.blk.reqPos false := by
  simp [State.lineDriveLow, h]

/-- The last position of the request releases the line (R76). -/
theorem State.lineDriveLow_last {s : State} (hw : s.params.wellFormed = true)
    (hlast : s.blk.reqPos + 1 = nReq s.params) : s.lineDriveLow = false := by
  by_cases hreq : s.blk.phase = .req
  · have hpos : s.blk.reqPos = (reqWave s.params).length - 1 := by unfold nReq at hlast; omega
    rw [State.lineDriveLow_of_req hreq, hpos, List.getD_eq_getElem?_getD, ← List.getLast?_eq_getElem?,
      reqWave_getLast? hw]
    rfl
  · exact State.lineDriveLow_of_ne_req hreq

/-! ### The line is read in CAP only -/

/-- Outside CAP the step rule has one next block, whatever the level of the line (R76). -/
theorem phaseTick_of_ne_cap {ph : Phase} (h : ph ≠ .cap) (p : Params) (b : Block) :
    ∃ c, ∀ l, phaseTick ph p l b = .next c := by
  cases ph with
  | idle => exact ⟨_, fun _ => rfl⟩
  | req => exact ⟨_, fun _ => rfl⟩
  | cap => exact absurd rfl h
  | dec => exact ⟨_, fun _ => rfl⟩

/-- The same tick with the line at level `l`. -/
def State.withLevel (s : State) (l : Bool) : State := { s with lineQ := l :: s.lineQ.tail }

@[simp] theorem State.withLevel_blk (s : State) (l : Bool) : (s.withLevel l).blk = s.blk := rfl

theorem State.withLevel_after (s : State) (l : Bool) (b : Block) : (s.withLevel l).after b = s.after b := rfl

theorem resetTick_withLevel (s : State) (l : Bool) : resetTick (s.withLevel l) = resetTick s := rfl

/-- Outside CAP a tick does not depend on the level of the line in it: not the reset, not the accept or the refusal
of a `poll()`, not the step rule (R76). -/
theorem step_withLevel {s : State} (h : s.blk.phase ≠ .cap) (l : Bool) : step (s.withLevel l) = step s := by
  cases hr : s.host.rst with
  | true => rw [step_of_rst hr, step_of_rst (s := s.withLevel l) hr, resetTick_withLevel]
  | false =>
    cases hp : s.host.presentsPoll with
    | true =>
      by_cases hidle : s.blk.phase = .idle
      · rw [step_of_poll_idle hr hp hidle, step_of_poll_idle (s := s.withLevel l) hr hp hidle, State.withLevel_after,
          State.withLevel_blk]
      · rw [step_of_poll_busy hr hp hidle, step_of_poll_busy (s := s.withLevel l) hr hp hidle]
    | false =>
      have hc : s.host.calm = true := (calm_iff s.host).2 ⟨hr, hp⟩
      obtain ⟨c, hrule⟩ := phaseTick_of_ne_cap h s.params s.blk
      rw [step_of_calm hc (hrule _), step_of_calm (s := s.withLevel l) hc (hrule _), State.withLevel_after]

/-! ### The run of a request -/

/-- A run goes on by one tick. -/
theorem runTicks_snoc {n : Nat} {s t u : State} (h : runTicks n s = .next t) (hs : step t = .next u) :
    runTicks (n + 1) s = .next u := by
  rw [runTicks_add n 1 h, runTicks_succ 0 hs, runTicks_zero]

theorem State.pollsOnce_iff (s : State) :
    s.pollsOnce = true ↔ s.host.rst = false ∧ s.host.presentsPoll = true ∧ s.hostQ.tail.all HostPort.calm = true := by
  simp [State.pollsOnce, and_assoc]

/-- The step of phase REQ (R74). -/
theorem step_of_req {s : State} (hc : s.host.calm = true) (hreq : s.blk.phase = .req) :
    step s = .next (s.after (reqTick s.params s.blk)) :=
  step_of_calm hc (by rw [hreq]; rfl)

theorem reqTick_of_lt {p : Params} {b : Block} (h : b.reqPos + 1 < nReq p) :
    reqTick p b = { b with reqPos := b.reqPos + 1 } := if_neg h.ne

theorem reqTick_of_last {p : Params} {b : Block} (h : b.reqPos + 1 = nReq p) :
    reqTick p b = { b with phase := .cap, sub := .waitLow, bitIdx := 0, timer := 0 } := if_pos h

/-- `t` is a state in the `k`-th tick of the request of a poll that `s` accepted, with a calm host to come. -/
structure InRequest (s : State) (k : Nat) (t : State) : Prop where
  blk : t.blk = { acceptPoll s.blk with reqPos := k }
  params : t.params = s.params
  calm : t.calm = true

theorem InRequest.phase {s t : State} {k : Nat} (h : InRequest s k t) : t.blk.phase = .req := by
  rw [h.blk]; rfl

theorem InRequest.reqPos {s t : State} {k : Nat} (h : InRequest s k t) : t.blk.reqPos = k := by
  rw [h.blk]

theorem InRequest.step {s t : State} {k : Nat} (h : InRequest s k t) :
    Machine.step t = .next (t.after (reqTick s.params { acceptPoll s.blk with reqPos := k })) := by
  rw [step_of_req (State.calm_host h.calm) h.phase, h.params, h.blk]

/-- The tick of the accept leads into the first tick of the request. -/
theorem inRequest_zero {s : State} (hidle : s.blk.phase = .idle) (hp : s.pollsOnce = true) :
    ∃ t, runTicks 1 s = .next t ∧ InRequest s 0 t := by
  obtain ⟨hr, hpoll, hcalm⟩ := s.pollsOnce_iff.1 hp
  exact ⟨_, runTicks_snoc (runTicks_zero s) (step_of_poll_idle hr hpoll hidle), rfl, rfl, hcalm⟩

theorem InRequest.next {s t : State} {k : Nat} (h : InRequest s k t) (hk : k + 1 < nReq s.params) :
    ∃ u, Machine.step t = .next u ∧ InRequest s (k + 1) u := by
  refine ⟨_, h.step, ?_, h.params, State.calm_after _ h.calm⟩
  rw [State_after_blk, reqTick_of_lt hk]

/-- `k + 1` ticks after the tick that accepts a `poll()` begins, the request is in its `k`-th tick (R74). -/
theorem runTicks_inRequest {s : State} (hidle : s.blk.phase = .idle) (hp : s.pollsOnce = true) (k : Nat)
    (hk : k < nReq s.params) : ∃ t, runTicks (k + 1) s = .next t ∧ InRequest s k t := by
  induction k with
  | zero => exact inRequest_zero hidle hp
  | succ k ih =>
    obtain ⟨t, hrun, ht⟩ := ih (by omega)
    obtain ⟨u, hstep, hu⟩ := ht.next hk
    exact ⟨u, runTicks_snoc hrun hstep, hu⟩

/-- The tick after the request's last begins the capture (R74). -/
theorem runTicks_capture {s : State} (hw : s.params.wellFormed = true) (hidle : s.blk.phase = .idle)
    (hp : s.pollsOnce = true) :
    ∃ t, runTicks (nReq s.params + 1) s = .next t ∧ t.params = s.params ∧ t.calm = true ∧
      t.blk = { acceptPoll s.blk with
        phase := .cap, sub := .waitLow, reqPos := nReq s.params - 1, bitIdx := 0, timer := 0 } := by
  have hlast : nReq s.params - 1 + 1 = nReq s.params := Nat.sub_add_cancel (nReq_pos hw)
  obtain ⟨t, hrun, ht⟩ := runTicks_inRequest hidle hp (nReq s.params - 1) (by omega)
  rw [hlast] at hrun
  refine ⟨_, runTicks_snoc hrun ht.step, ht.params, State.calm_after _ ht.calm, ?_⟩
  rw [State_after_blk, reqTick_of_last hlast]

end Sys2Proof.Machine

namespace Sys2Proof.Proofs.PollRequest

open Sys2Proof Sys2Proof.Machine

/-- Settles O15: a tick of IDLE without reset is the accept of a `poll()`, or the step rule of IDLE, which keeps the
block. -/
theorem idleTickAcceptsPollOrChangesNothing : Obligations.IdleTickAcceptsPollOrChangesNothing := by
  intro s hr hidle
  refine ⟨State.lineDriveLow_of_ne_req (by simp [hidle]), ?_⟩
  cases hp : s.host.presentsPoll with
  | true => exact step_of_poll_idle hr hp hidle
  | false => exact step_of_calm ((calm_iff s.host).2 ⟨hr, hp⟩) (by rw [hidle]; rfl)

/-- Settles O16: the tick is the step rule of REQ, and the run is the accept followed by the positions of the request
one by one. -/
theorem requestPhaseLastsNReqTicks : Obligations.RequestPhaseLastsNReqTicks := by
  refine ⟨fun s hc hreq => step_of_req hc hreq, fun s hw hidle hp => ⟨fun k hk => ?_, ?_⟩⟩
  · obtain ⟨t, hrun, ht⟩ := runTicks_inRequest hidle hp k hk
    exact ⟨t, hrun, ht.blk⟩
  · obtain ⟨t, hrun, -, -, hblk⟩ := runTicks_capture hw hidle hp
    exact ⟨t, hrun, hblk⟩

/-- Settles O25: in its `k`-th tick the request is at position `k`, and there the block drives element `k` of the
wave. -/
theorem requestDrivesTheWave : Obligations.RequestDrivesTheWave := by
  intro s _ hidle hp k hk
  obtain ⟨t, hrun, ht⟩ := runTicks_inRequest hidle hp k hk
  have hin : k < (reqWave s.params).length := hk
  refine ⟨t, hrun, ht.phase, ht.reqPos, ?_⟩
  rw [State.lineDriveLow_of_req ht.phase, ht.params, ht.reqPos, List.getD_eq_getElem _ _ hin,
    List.getElem?_eq_getElem hin]

/-- Settles O27: the drive is off outside REQ by its definition and in the last position because every pulse ends
released; and no part of a tick but the step rule of CAP reads the line. -/
theorem lineReleasedBeforeSampling : Obligations.LineReleasedBeforeSampling :=
  ⟨fun _ h => State.lineDriveLow_of_ne_req h, fun _ hw hlast => State.lineDriveLow_last hw hlast,
    fun _ level h => step_withLevel h level⟩

/-- Settles O11: the arm of `poll()` refuses outside IDLE, and without reset the step passes the refusal through. -/
theorem pollWhileBusyIsRefused : Obligations.PollWhileBusyIsRefused :=
  fun _ hbusy => ⟨exec_poll_busy hbusy, fun hr hp => step_of_poll_busy hr hp hbusy⟩

end Sys2Proof.Proofs.PollRequest

/-! PROOFS. The statements of 41_capture.md: one tick of each sub-phase, the sample, and the two waits that time out.
First the facts they share: the equations of the step rules of CAP, and the run of a calm host, which follows the step
rule from block to block. -/

namespace Sys2Proof.Machine

/-! ### The step rules of CAP, case by case -/

theorem phaseTick_of_waitLow {b : Block} (hcap : b.phase = .cap) (hsub : b.sub = .waitLow) (p : Params) (l : Bool) :
    phaseTick b.phase p l b = .next (waitLowTick p l b) := by
  simp [phaseTick, capTick, hcap, hsub]

theorem phaseTick_of_delay {b : Block} (hcap : b.phase = .cap) (hsub : b.sub = .delay) (p : Params) (l : Bool) :
    phaseTick b.phase p l b = delayTick p l b := by
  simp [phaseTick, capTick, hcap, hsub]

theorem phaseTick_of_waitHigh {b : Block} (hcap : b.phase = .cap) (hsub : b.sub = .waitHigh) (p : Params) (l : Bool) :
    phaseTick b.phase p l b = .next (waitHighTick p l b) := by
  simp [phaseTick, capTick, hcap, hsub]

/-- The tick of a wait that sees the wrong level: it counts, and gives up in its `T_TIMEOUT`-th tick (R82, R84). -/
def countOrTimeout (p : Params) (b : Block) : Block :=
  if b.timer + 1 = p.tTimeout then raiseTimeout p b else { b with timer := b.timer + 1 }

theorem countOrTimeout_of_ne {p : Params} {b : Block} (h : b.timer + 1 ≠ p.tTimeout) :
    countOrTimeout p b = { b with timer := b.timer + 1 } := if_neg h

theorem countOrTimeout_of_eq {p : Params} {b : Block} (h : b.timer + 1 = p.tTimeout) :
    countOrTimeout p b = raiseTimeout p b := if_pos h

theorem waitLowTick_low (p : Params) (b : Block) : waitLowTick p false b = { b with sub := .delay, timer := 1 } := rfl

theorem waitLowTick_high (p : Params) (b : Block) : waitLowTick p true b = countOrTimeout p b := rfl

/-- The block after the sample of a cell: its slot holds the level `l`, and the next position waits for the line to be
high (R81). -/
def Block.sampled (b : Block) (l : Bool) : Block :=
  { b with
    raw := b.raw.setIfInBounds b.bitIdx (if l then 0x01#8 else 0x00#8)
    bitIdx := b.bitIdx + 1, sub := .waitHigh, timer := 0 }

theorem set_eq_setIfInBounds (raw : Vector Byte 33) (v : Byte) {i : Nat} (h : i < 33) :
    raw.set i v h = raw.setIfInBounds i v := by
  ext j hj
  rw [Vector.getElem_set, Vector.getElem_setIfInBounds]

theorem delayTick_of_sample {p : Params} {l : Bool} {b : Block} (ht : b.timer = p.tSample) (hb : b.bitIdx ≤ 32) :
    delayTick p l b = .next (b.sampled l) := by
  have hlt : b.bitIdx < 33 := by omega
  simp only [delayTick, if_pos ht, writeSlot_of_lt _ _ _ hlt, set_eq_setIfInBounds, zext8, Block.sampled]

theorem delayTick_of_ne {p : Params} {l : Bool} {b : Block} (ht : b.timer ≠ p.tSample) :
    delayTick p l b = .next { b with timer := b.timer + 1 } := if_neg ht

theorem waitHighTick_high (p : Params) (b : Block) :
    waitHighTick p true b = if b.bitIdx = 33 then { b with phase := .dec } else { b with sub := .waitLow, timer := 0 } :=
  rfl

theorem waitHighTick_low_hardened {p : Params} (h : p.hardened = true) (b : Block) :
    waitHighTick p false b = countOrTimeout p b := by simp [waitHighTick, h, countOrTimeout]

theorem waitHighTick_low_legacy {p : Params} (h : p.hardened = false) (b : Block) : waitHighTick p false b = b := by
  simp [waitHighTick, h]

/-! ### The block but for its timer -/

/-- The same block with the timer at `n`. -/
def Block.withTimer (b : Block) (n : Nat) : Block := { b with timer := n }

@[simp] theorem Block.withTimer_phase (b : Block) (n : Nat) : (b.withTimer n).phase = b.phase := rfl
@[simp] theorem Block.withTimer_timer (b : Block) (n : Nat) : (b.withTimer n).timer = n := rfl

theorem Block.withTimer_self (b : Block) : b.withTimer b.timer = b := rfl

theorem Block.withTimer_sampled (b : Block) (n : Nat) (l : Bool) : (b.withTimer n).sampled l = b.sampled l := rfl

theorem Block.restZero_withTimer (b : Block) (n : Nat) : (b.withTimer n).restZero = b.restZero := rfl

/-! ### The run of a calm host -/

/-- `t` is the state `k` ticks after `s`: it holds the block `b` and the parameters of `s`, its line is the rest of the
line of `s`, and its host is calm in what is still to come. -/
structure AtTick (s : State) (k : Nat) (b : Block) (t : State) : Prop where
  run : runTicks k s = .next t
  blk : t.blk = b
  params : t.params = s.params
  calm : t.calm = true
  line : ∀ j, t.lineAt j = s.lineAt (k + j)

theorem atTick_zero {s : State} (hc : s.calm = true) : AtTick s 0 s.blk s :=
  ⟨runTicks_zero s, rfl, rfl, hc, fun j => by rw [Nat.zero_add]⟩

theorem AtTick.lineIn {s t : State} {k : Nat} {b : Block} (h : AtTick s k b t) : t.lineIn = s.lineAt k := by
  rw [lineIn_eq_lineAt_zero, h.line, Nat.add_zero]

theorem exists_run_of_exists_atTick {s : State} {k : Nat} {b : Block} (h : ∃ t, AtTick s k b t) :
    ∃ t, runTicks k s = .next t ∧ t.blk = b :=
  h.imp fun _ ht => ⟨ht.run, ht.blk⟩

/-- The run goes on by the step rule of the phase, with the level that the line has then. -/
theorem AtTick.next {s t : State} {k : Nat} {b c : Block} (h : AtTick s k b t)
    (hrule : phaseTick b.phase s.params (s.lineAt k) b = .next c) : AtTick s (k + 1) c (t.after c) where
  run := runTicks_snoc h.run (step_of_calm (State.calm_host h.calm) (by rw [h.blk, h.params, h.lineIn, hrule]))
  blk := rfl
  params := h.params
  calm := State.calm_after c h.calm
  line j := by rw [after_lineAt, h.line, Nat.add_right_comm, Nat.add_assoc]

/-- With a calm host a run goes through the blocks `f 0`, `f 1`, and so on, if the step rule leads from each to the
next. -/
theorem exists_atTick {s : State} {f : Nat → Block} {n : Nat} (hc : s.calm = true) (hzero : f 0 = s.blk)
    (hrule : ∀ k, k < n → phaseTick (f k).phase s.params (s.lineAt k) (f k) = .next (f (k + 1))) (k : Nat)
    (hk : k ≤ n) : ∃ t, AtTick s k (f k) t := by
  induction k with
  | zero => exact ⟨s, hzero ▸ atTick_zero hc⟩
  | succ k ih =>
    obtain ⟨t, ht⟩ := ih (by omega)
    exact ⟨_, ht.next (hrule k hk)⟩

/-! ### The waits over several ticks -/

/-- In DELAY the timer counts up to `T_SAMPLE` whatever the line does (R85). -/
theorem exists_atTick_delay {s : State} (hc : s.calm = true) (hcap : s.blk.phase = .cap) (hsub : s.blk.sub = .delay)
    (k : Nat) (hk : k ≤ s.params.tSample - s.blk.timer) : ∃ t, AtTick s k (s.blk.withTimer (s.blk.timer + k)) t := by
  refine exists_atTick (f := fun j => s.blk.withTimer (s.blk.timer + j)) hc s.blk.withTimer_self (fun j hj => ?_) k hk
  rw [phaseTick_of_delay (b := s.blk.withTimer (s.blk.timer + j)) hcap hsub,
    delayTick_of_ne (by rw [Block.withTimer_timer]; omega)]
  rfl

/-- The tick of DELAY that finds the timer at `T_SAMPLE` stores the line of that tick (R81). -/
theorem exists_atTick_sample {s : State} (hc : s.calm = true) (hcap : s.blk.phase = .cap) (hsub : s.blk.sub = .delay)
    (hidx : s.blk.bitIdx ≤ 32) (htimer : s.blk.timer ≤ s.params.tSample) :
    ∃ t, AtTick s (s.params.tSample - s.blk.timer + 1)
      (s.blk.sampled (s.lineAt (s.params.tSample - s.blk.timer))) t := by
  obtain ⟨t, ht⟩ := exists_atTick_delay hc hcap hsub _ le_rfl
  rw [Nat.add_sub_cancel' htimer] at ht
  refine ⟨_, ht.next ?_⟩
  rw [phaseTick_of_delay (b := s.blk.withTimer s.params.tSample) hcap hsub,
    delayTick_of_sample (s.blk.withTimer_timer _) hidx, Block.withTimer_sampled]

/-- From `s` the timer counts from 0, and the `T_TIMEOUT`-th tick raises Timeout. -/
structure WaitTimesOut (s : State) : Prop where
  count : ∀ k, k < s.params.tTimeout → ∃ t, AtTick s k (s.blk.withTimer k) t
  fire : ∃ t, AtTick s s.params.tTimeout (raiseTimeout s.params (s.blk.withTimer (s.params.tTimeout - 1))) t

/-- A wait whose every tick sees the wrong level counts, and raises Timeout in its `T_TIMEOUT`-th tick (R82, R84). -/
theorem waitTimesOut_of_countOrTimeout {s : State} (hc : s.calm = true) (hzero : s.blk.timer = 0)
    (hpos : 0 < s.params.tTimeout)
    (hwait : ∀ k, k < s.params.tTimeout → phaseTick s.blk.phase s.params (s.lineAt k) (s.blk.withTimer k) =
      .next (countOrTimeout s.params (s.blk.withTimer k))) : WaitTimesOut s := by
  have hlast : s.params.tTimeout - 1 + 1 = s.params.tTimeout := Nat.sub_add_cancel hpos
  have hcount : ∀ k, k ≤ s.params.tTimeout - 1 → ∃ t, AtTick s k (s.blk.withTimer k) t := by
    refine exists_atTick hc (hzero ▸ s.blk.withTimer_self) fun k hk => ?_
    rw [Block.withTimer_phase, hwait k (by omega), countOrTimeout_of_ne (by rw [Block.withTimer_timer]; omega)]
    rfl
  refine ⟨fun k hk => hcount k (by omega), ?_⟩
  obtain ⟨t, ht⟩ := hcount _ le_rfl
  have hfire := ht.next (hwait _ (by omega))
  rw [hlast, countOrTimeout_of_eq hlast] at hfire
  exact ⟨_, hfire⟩

/-- Every tick of a high line in WAIT_LOW is a tick of the wait (R80, R82). -/
theorem waitLow_timesOut {s : State} (hc : s.calm = true) (hpos : 0 < s.params.tTimeout)
    (hcap : s.blk.phase = .cap) (hsub : s.blk.sub = .waitLow) (hzero : s.blk.timer = 0)
    (hline : ∀ k, k < s.params.tTimeout → s.lineAt k = true) : WaitTimesOut s := by
  refine waitTimesOut_of_countOrTimeout hc hzero hpos fun k hk => ?_
  rw [← s.blk.withTimer_phase k, phaseTick_of_waitLow (b := s.blk.withTimer k) hcap hsub, hline k hk, waitLowTick_high]

/-- With `HARDENED = 1` every tick of a low line in WAIT_HIGH is a tick of the wait (R83, R84). -/
theorem waitHigh_timesOut {s : State} (hc : s.calm = true) (hpos : 0 < s.params.tTimeout)
    (hhard : s.params.hardened = true) (hcap : s.blk.phase = .cap) (hsub : s.blk.sub = .waitHigh)
    (hzero : s.blk.timer = 0) (hline : ∀ k, k < s.params.tTimeout → s.lineAt k = false) : WaitTimesOut s := by
  refine waitTimesOut_of_countOrTimeout hc hzero hpos fun k hk => ?_
  rw [← s.blk.withTimer_phase k, phaseTick_of_waitHigh (b := s.blk.withTimer k) hcap hsub, hline k hk,
    waitHighTick_low_hardened hhard]

/-- With `HARDENED = 0` a low line in WAIT_HIGH keeps the block as it is (R84). -/
theorem exists_atTick_waitHigh_legacy {s : State} {n : Nat} (hc : s.calm = true) (hleg : s.params.hardened = false)
    (hcap : s.blk.phase = .cap) (hsub : s.blk.sub = .waitHigh) (hline : ∀ k, k < n → s.lineAt k = false) :
    ∃ t, AtTick s n s.blk t := by
  refine exists_atTick (f := fun _ => s.blk) hc rfl (fun k hk => ?_) n le_rfl
  rw [phaseTick_of_waitHigh hcap hsub, hline k hk, waitHighTick_low_legacy hleg]

/-! ### What the legal parameters and the invariant give -/

theorem Params.tTimeout_pos {p : Params} (h : p.wellFormed = true) : 0 < p.tTimeout := by
  simp only [Params.wellFormed, Bool.and_eq_true, decide_eq_true_eq] at h
  obtain ⟨⟨⟨-, htimeout⟩, -⟩, -⟩ := h
  exact htimeout

theorem State.inv_iff (s : State) :
    s.inv = true ↔ s.params.wellFormed = true ∧ s.blk.slotsBinary = true ∧ s.blk.countersBounded s.params = true ∧
      s.blk.phaseFacts s.params = true ∧ s.blk.resultLegal s.params = true := by
  simp [State.inv, and_assoc]

theorem Block.phaseFacts_cap {p : Params} {b : Block} (hcap : b.phase = .cap) :
    b.phaseFacts p = true ↔ b.cellCounters p = true ∧ b.restZero = true := by
  simp [Block.phaseFacts, hcap]

/-- The raise of Timeout writes no slot (R120, R121). -/
theorem raiseTimeout_restZero (p : Params) (b : Block) : (raiseTimeout p b).restZero = b.restZero := by
  unfold raiseTimeout; split <;> rfl

end Sys2Proof.Machine

namespace Sys2Proof.Proofs.Capture

open Sys2Proof Sys2Proof.Machine

/-- Settles O17: the tick is the step rule of WAIT_LOW, which looks at the line first and then at the timer. -/
theorem waitLowTickStartsTheCellOrCounts : Obligations.WaitLowTickStartsTheCellOrCounts := by
  intro s hc hcap hsub
  rw [step_of_calm hc (phaseTick_of_waitLow hcap hsub _ _)]
  cases s.lineIn with
  | false => rw [waitLowTick_low, if_pos rfl]
  | true => rw [waitLowTick_high, if_neg (by decide), countOrTimeout, raiseTimeout]

/-- Settles O18: the tick is the step rule of DELAY; over several ticks the timer counts up to `T_SAMPLE` without a
look at the line, and the tick that finds it there stores the line. -/
theorem delaySamplesTheLineAtTSample : Obligations.DelaySamplesTheLineAtTSample := by
  refine ⟨fun s hc hcap hsub hidx => ?_, fun s hc hcap hsub hidx htimer => ⟨fun k hk => ?_, ?_⟩⟩
  · refine step_of_calm hc ?_
    rw [phaseTick_of_delay hcap hsub]
    by_cases ht : s.blk.timer = s.params.tSample
    · rw [delayTick_of_sample ht hidx, if_pos ht, Block.sampled]
    · rw [delayTick_of_ne ht, if_neg ht]
  · exact exists_run_of_exists_atTick (exists_atTick_delay hc hcap hsub k hk)
  · exact exists_run_of_exists_atTick (exists_atTick_sample hc hcap hsub hidx htimer)

/-- Settles O20: the tick is the step rule of WAIT_HIGH; a low line is a tick of the wait with `HARDENED = 1`, whose
Timeout ends the poll, and nothing at all with `HARDENED = 0`. -/
theorem waitHighTickEndsTheCellOrWaits : Obligations.WaitHighTickEndsTheCellOrWaits := by
  intro s hc hcap hsub
  rw [step_of_calm hc (phaseTick_of_waitHigh hcap hsub _ _)]
  cases s.lineIn with
  | true => rw [waitHighTick_high, if_pos rfl]
  | false =>
    rw [if_neg (by decide)]
    cases hhard : s.params.hardened with
    | true => rw [waitHighTick_low_hardened hhard, countOrTimeout, raiseTimeout_hardened hhard, if_pos rfl]
    | false => rw [waitHighTick_low_legacy hhard, if_neg (by decide)]

/-- Settles O28: the high line makes every tick of WAIT_LOW a tick of the wait, and neither the count nor the raise of
Timeout reaches a slot, so those from `bit_idx` on stay clear as the invariant says. -/
theorem waitLowTimesOutAtTheWindow : Obligations.WaitLowTimesOutAtTheWindow := by
  intro s hinv hc hcap hsub hzero hline
  obtain ⟨hwf, -, -, hfacts, -⟩ := s.inv_iff.1 hinv
  obtain ⟨-, hrest⟩ := (Block.phaseFacts_cap hcap).1 hfacts
  obtain ⟨hcount, t, ht⟩ := waitLow_timesOut hc (Params.tTimeout_pos hwf) hcap hsub hzero hline
  refine ⟨fun k hk => exists_run_of_exists_atTick (hcount k hk), t, ht.run, ?_, ht.blk⟩
  rw [ht.blk, raiseTimeout_restZero, Block.restZero_withTimer, hrest]

/-- Settles O29: with `HARDENED = 0` the step rule of WAIT_HIGH keeps the block for as long as the line is low; with
`HARDENED = 1` every such tick is a tick of the wait. -/
theorem lineHeldLowHangsOrTimesOut : Obligations.LineHeldLowHangsOrTimesOut := by
  refine ⟨fun s n hleg hc hcap hsub hline => ?_, fun s hwf hhard hc hcap hsub hzero hline => ?_⟩
  · obtain ⟨t, ht⟩ := exists_atTick_waitHigh_legacy hc hleg hcap hsub hline
    have hbusy : t.busy = true := by simp [State.busy, ht.blk, hcap]
    exact ⟨t, ht.run, ht.blk, hbusy⟩
  · obtain ⟨hcount, hfire⟩ := waitHigh_timesOut hc (Params.tTimeout_pos hwf) hhard hcap hsub hzero hline
    rw [raiseTimeout_hardened hhard] at hfire
    exact ⟨fun k hk => exists_run_of_exists_atTick (hcount k hk), exists_run_of_exists_atTick hfire⟩

end Sys2Proof.Proofs.Capture

/-! PROOFS. The statements of 42_decode.md: what `pack8` makes of the slots, the decode tick, and the slot that it does
not read. First the facts they share: the value of a packed byte, the slots that a byte and the snapshot depend on, and
the tick of DEC as one equation. -/

namespace Sys2Proof.Machine

/-! ### The value of a packed byte -/

/-- The library states this for `BitVec.concat`; `pack8` puts its bits together with `++`. -/
theorem toNat_append_ofBool {n : Nat} (x : BitVec n) (b : Bool) :
    (x ++ BitVec.ofBool b).toNat = x.toNat * 2 + b.toNat :=
  BitVec.toNat_concat x b

/-- The packed byte is the sum of its bits, each with the weight of its position (R90). -/
theorem pack8_toNat (raw : Vector Byte 33) (k : Nat) :
    (pack8 raw k).toNat = (slotBit raw k).toNat * 128 + (slotBit raw (k + 1)).toNat * 64
      + (slotBit raw (k + 2)).toNat * 32 + (slotBit raw (k + 3)).toNat * 16 + (slotBit raw (k + 4)).toNat * 8
      + (slotBit raw (k + 5)).toNat * 4 + (slotBit raw (k + 6)).toNat * 2 + (slotBit raw (k + 7)).toNat := by
  simp only [pack8, toNat_append_ofBool, BitVec.toNat_ofBool, Nat.add_zero]
  omega

/-- Bit 0 of a slot that holds 0 or 1 and the value of the slot are the same thing (R16, R90). -/
theorem slotBit_toNat {raw : Vector Byte 33} {i : Nat} (h : i < 33) (hbin : raw[i] = 0x00#8 ∨ raw[i] = 0x01#8) :
    (slotBit raw i).toNat = raw[i].toNat := by
  rw [slotBit_of_lt raw i h]
  obtain hz | ho := hbin
  · rw [hz]; rfl
  · rw [ho]; rfl

/-! ### The slots that the decode reads -/

/-- A packed byte depends on bit 0 of its eight slots and on nothing else. -/
theorem pack8_congr {raw raw' : Vector Byte 33} {k : Nat}
    (h : ∀ j, j < 8 → slotBit raw (k + j) = slotBit raw' (k + j)) : pack8 raw k = pack8 raw' k := by
  simp only [pack8, h _ (by decide : 0 < 8), h _ (by decide : 1 < 8), h _ (by decide : 2 < 8),
    h _ (by decide : 3 < 8), h _ (by decide : 4 < 8), h _ (by decide : 5 < 8), h _ (by decide : 6 < 8),
    h _ (by decide : 7 < 8)]

/-- The snapshot depends on bit 0 of slots 0 to 31 and on nothing else (R89, R92). -/
theorem packSnapshot_congr {raw raw' : Vector Byte 33} (h : ∀ i, i < 32 → slotBit raw i = slotBit raw' i) :
    packSnapshot raw = packSnapshot raw' := by
  have hpack : ∀ k, k + 8 ≤ 32 → pack8 raw k = pack8 raw' k :=
    fun k hk => pack8_congr fun j hj => h (k + j) (by omega)
  simp only [packSnapshot, hpack 0 (by decide), hpack 8 (by decide), hpack 16 (by decide), hpack 24 (by decide)]

theorem slotBit_set_of_ne (raw : Vector Byte 33) (v : Byte) {i j : Nat} (hj : j < 33) (h : j ≠ i) :
    slotBit (raw.set j v) i = slotBit raw i := by
  rw [slotBit, readSlot, Vector.getElem?_set_ne hj h, slotBit, readSlot]

theorem packSnapshot_set_stop (raw : Vector Byte 33) (v : Byte) :
    packSnapshot (raw.set 32 v) = packSnapshot raw :=
  packSnapshot_congr fun _ hi => slotBit_set_of_ne raw v (by decide) hi.ne'

/-! ### The tick of DEC -/

/-- With a calm host the tick of DEC is the decode and nothing else (R89). -/
theorem step_of_dec {s : State} (hc : s.host.calm = true) (hdec : s.blk.phase = .dec) :
    step s = .next (s.after (decTick s.blk)) :=
  step_of_calm hc (by rw [hdec]; rfl)

end Sys2Proof.Machine

namespace Sys2Proof.Proofs.Decode

open Sys2Proof Sys2Proof.Machine

/-- Settles O34: bit by bit by the packing, and as a number by the weights of the bits, each of which is its slot's
value where the slots hold 0 or 1. -/
theorem pack8IsMostSignificantBitFirst : Obligations.Pack8IsMostSignificantBitFirst := by
  refine fun raw k hk => ⟨fun j hj => ?_, fun hbin => ?_⟩
  · rw [pack8_getLsbD raw k j hj, slotBit_of_lt]
  · have hslot : ∀ (i : Nat) (hi : i < 33), (slotBit raw i).toNat = raw[i].toNat :=
      fun i hi => slotBit_toNat hi (hbin i hi)
    rw [pack8_toNat, hslot k, hslot (k + 1), hslot (k + 2), hslot (k + 3), hslot (k + 4), hslot (k + 5),
      hslot (k + 6), hslot (k + 7)]

/-- Settles O36: both ticks are the decode, which writes Success in any case and packs slots 0 to 31 only. -/
theorem stopSlotIsNotDecoded : Obligations.StopSlotIsNotDecoded := by
  intro s v hc hdec
  refine ⟨_, _, step_of_dec hc hdec, step_of_dec hc hdec, ?_, rfl⟩
  rw [State_after_blk, State_after_blk, decTick_snap, decTick_snap, packSnapshot_set_stop]

/-- Settles O21: the tick of a calm host in DEC is the step rule of DEC. -/
theorem decodeTickWritesTheWholeSnapshot : Obligations.DecodeTickWritesTheWholeSnapshot :=
  fun _ hc hdec => step_of_dec hc hdec

end Sys2Proof.Proofs.Decode

/-! PROOFS. The statements of 43_query.md: what the 17 queries answer. First the facts they share: a word of format Q
names the byte and the bit that its predicate reads, that bit is the one under the mask, and the snapshot stays clear
until a decode writes Success. -/

namespace Sys2Proof.Machine

/-! ### What a word of format Q answers -/

/-- A word of format Q that the output table does not show as IllegalCommand answers the bit that its fields name
(R57, R61). -/
theorem responseOf_query {b : Block} {w : CmdWord} (hcls : cmdCls w = false) (herr : (responseOf b w).2 = false) :
    (responseOf b w).1 = zext8 (byteBit (b.snap.selected (cmdBsel w)) (cmdBit w)) := by
  cases hres : cmdBsel w && decide (6 ≤ cmdBit w) with
  | true => simp [responseOf, hcls, hres] at herr
  | false => simp [responseOf, hcls, hres]

/-- A predicate answers the bit that the fields of its word name (R57, R95). -/
theorem exec_predicate {w : CmdWord} {i : Instr} (hw : decodeWord w = .ok i) (hcls : cmdCls w = false) (s : State) :
    exec i s = .next (s.answered (zext8 (byteBit (s.blk.snap.selected (cmdBsel w)) (cmdBit w)))) := by
  have hpoll : i ≠ .poll := by
    rintro rfl
    rw [(decodeWord_eq_poll_iff w).1 hw] at hcls
    exact absurd hcls (by decide)
  have herr := responseOf_encode_err i s.blk
  have hexec := exec_query_responseOf i s hpoll
  rw [encode_of_decodeWord hw] at herr hexec
  rw [hexec, responseOf_query hcls herr]
  rfl

theorem cmdBit_lt (w : CmdWord) : cmdBit w < 8 := (w.extractLsb' 0 3).isLt

/-- Testing a bit is testing the byte against the mask of that bit (R96 to R109). -/
theorem zext8_byteBit_eq_mask (v : Byte) {k : Nat} (hk : k < 8) :
    zext8 (byteBit v k) = if v &&& BitVec.twoPow 8 k ≠ 0#8 then 0x01#8 else 0x00#8 := by
  have hmask : BitVec.twoPow 8 k ≠ 0#8 := by interval_cases k <;> decide
  rw [BitVec.and_twoPow, byteBit]
  cases v.getLsbD k <;> simp [zext8, hmask]

/-! ### The snapshot before the first Success -/

theorem runTicks_succ_next {n : Nat} {s t : State} (h : runTicks (n + 1) s = .next t) :
    ∃ u, step s = .next u ∧ runTicks n u = .next t := by
  rw [runTicks] at h
  split at h
  · exact ⟨_, ‹_›, h⟩
  · cases h
  · cases h

/-- A tick that does not end with Success clears the snapshot or keeps it: only the decode writes anything else, and
it writes Success with it (R20, R89). -/
theorem step_snap_of_ne_success {s t : State} (h : step s = .next t) (hne : t.blk.result ≠ .success) :
    t.blk.snap = Block.reset.snap ∨ t.blk.snap = s.blk.snap := by
  obtain ⟨-, hreset⟩ | ⟨-, -, haccept⟩ | ⟨-, hrule⟩ := step_blk_cases h
  · exact .inl (by rw [hreset])
  · exact .inr (by rw [haccept, acceptPoll_snap])
  · by_cases hdec : s.blk.phase = .dec
    · rw [hdec, phaseTick, Host.Outcome.next.injEq] at hrule
      rw [← hrule] at hne
      exact absurd (decTick_result s.blk) hne
    · exact .inr (phaseTick_snap_of_ne_dec hdec hrule)

/-- A clear snapshot stays clear through a run in which no poll ends with Success. -/
theorem runTicks_snap_of_ne_success {n : Nat} {s t : State} (hclear : s.blk.snap = Block.reset.snap)
    (h : runTicks n s = .next t) (hne : ∀ k u, k ≤ n → runTicks k s = .next u → u.blk.result ≠ .success) :
    t.blk.snap = Block.reset.snap := by
  induction n generalizing s with
  | zero =>
    cases h
    exact hclear
  | succ n ih =>
    obtain ⟨u, hu, hrun⟩ := runTicks_succ_next h
    have hfirst : u.blk.result ≠ .success := hne 1 u (by omega) (runTicks_succ 0 hu)
    have hkept : u.blk.snap = Block.reset.snap := by
      obtain hzero | hsame := step_snap_of_ne_success hu hfirst
      · exact hzero
      · rw [hsame, hclear]
    exact ih hkept hrun fun k v hk hv => hne (k + 1) v (by omega) ((runTicks_succ k hu).trans hv)

theorem reset_selected (bsel : Bool) : Block.reset.snap.selected bsel = 0#8 := by cases bsel <;> rfl

/-- Every word of format Q that decodes is a predicate of the byte and the mask that its fields name (R96 to R109). -/
theorem predicateAnswers_of_query {w : CmdWord} {i : Instr} (hw : decodeWord w = .ok i) (hcls : cmdCls w = false) :
    predicateAnswers w i (fun sn => sn.selected (cmdBsel w)) (BitVec.twoPow 8 (cmdBit w)) := by
  refine ⟨hw, fun s => ?_, fun n s t hreset hrun hne => ?_⟩
  · rw [exec_predicate hw hcls, zext8_byteBit_eq_mask _ (cmdBit_lt w)]
  · have hclear : t.blk.snap = Block.reset.snap := runTicks_snap_of_ne_success (by rw [hreset]) hrun hne
    rw [exec_predicate hw hcls, hclear, reset_selected]
    simp [byteBit, zext8]

/-! ### The signed reading of a byte -/

theorem sext8ToInt_eq_toInt (v : Byte) : sext8ToInt v = v.toInt := by
  rw [BitVec.toInt_eq_toNat_cond, sext8ToInt]
  split_ifs <;> omega

end Sys2Proof.Machine

namespace Sys2Proof.Proofs.Query

open Sys2Proof Sys2Proof.Machine

/-- Settles O6: the fields of the words `0x00` to `0x07` are `bsel = 0` and the bits 0 to 7. -/
theorem data1PredicatesAnswerTheirBit : Obligations.Data1PredicatesAnswerTheirBit := by
  refine ⟨?_, ?_, ?_, ?_, ?_, ?_, ?_, ?_⟩ <;> exact predicateAnswers_of_query rfl rfl

/-- Settles O7: the fields of the words `0x08` to `0x0D` are `bsel = 1` and the bits 0 to 5. -/
theorem data2PredicatesAnswerTheirBit : Obligations.Data2PredicatesAnswerTheirBit := by
  refine ⟨?_, ?_, ?_, ?_, ?_, ?_⟩ <;> exact predicateAnswers_of_query rfl rfl

/-- Settles O8: both reads answer their row of the output table, and the reading of the spec is the library's
`BitVec.toInt`, with its bounds. -/
theorem axisReadsAnswerTheStoredPattern : Obligations.AxisReadsAnswerTheStoredPattern := by
  refine ⟨rfl, rfl, fun s => ⟨?_, ?_⟩, fun v => ⟨sext8ToInt_eq_toInt v, ?_, ?_⟩⟩
  · exact exec_query_responseOf .stickX s (by decide)
  · exact exec_query_responseOf .stickY s (by decide)
  · rw [sext8ToInt_eq_toInt]
    exact BitVec.le_toInt v
  · rw [sext8ToInt_eq_toInt]
    exact Int.le_of_lt_add_one (BitVec.toInt_lt (x := v))

/-- Settles O9: the read answers its row of the output table, which has the code of each result. -/
theorem pollResultAnswersTheCode : Obligations.PollResultAnswersTheCode := by
  refine ⟨rfl, fun s => ?_⟩
  have hcode : exec .pollResult s = .next (s.answered (s.blk.result.code.setWidth 8)) :=
    exec_query_responseOf .pollResult s (by decide)
  rw [hcode]
  cases s.blk.result <;> rfl

end Sys2Proof.Proofs.Query

/-! PROOFS. The statements of 60_exceptions.md: the tick of a reserved word, and the code of `result` that nothing
produces. First the facts they share: the reserved words as the decoder sees them, the writers of `result` through the
step rules, and the induction over a run. -/

namespace Sys2Proof.Machine

/-! ### The tick of a reserved word -/

/-- Format C selects no operation from `fn = 4` up (R58, R60). -/
theorem decodeWord_of_reservedControl :
    ∀ w : CmdWord, 0x14 ≤ w.toNat → decodeWord w = .error (.reservedControl (cmdFn w)) := by decide

/-- The words that R60 lists do not decode. -/
theorem decodeWord_of_reserved {w : CmdWord} (h : w = 0x0E#5 ∨ w = 0x0F#5 ∨ 0x14 ≤ w.toNat) :
    ∃ e, decodeWord w = .error e := by
  obtain rfl | rfl | hctl := h
  · exact ⟨.reservedQuery 6, rfl⟩
  · exact ⟨.reservedQuery 7, rfl⟩
  · exact ⟨_, decodeWord_of_reservedControl w hctl⟩

/-- The tick that presents a word that does not decode is the silent tick but for its response (R125). -/
theorem step_present_of_error {s u : State} {w : CmdWord} {e : DecodeError} (hw : decodeWord w = .error e)
    (h : step s.silenced = .next u) :
    step (s.present w) = .next { u with out := { u.out with rspData := 0x00#8, rspErr := true } } := by
  have hsilent : PresentedEffect s.silenced s.silenced.noCommand := .silent rfl
  have hreserved : PresentedEffect (s.present w) (s.present w).illegalCommand := .reserved rfl hw
  rw [step_of_presentedEffect rfl hsilent] at h
  obtain ⟨b, hb, rfl⟩ := endTick_next h
  have hclose : endTick (s.present w) (s.present w).illegalCommand =
      .next (closeTick (s.present w) (s.present w).illegalCommand b) := endTick_of_phaseTick hb
  rw [step_of_presentedEffect rfl hreserved, hclose]
  rfl

/-! ### The writers of `result` -/

/-- `c` keeps the `result` of `b`, or it is `b` after a Timeout with `HARDENED = 1` (R120). -/
def KeepsResultOrTimesOut (p : Params) (b c : Block) : Prop :=
  c.result = b.result ∨ (p.hardened = true ∧ c = { b with result := .timeout, phase := .idle })

theorem raiseTimeout_keepsResultOrTimesOut (p : Params) (b : Block) : KeepsResultOrTimesOut p b (raiseTimeout p b) := by
  cases hh : p.hardened with
  | true => exact .inr ⟨hh, raiseTimeout_hardened hh b⟩
  | false => exact .inl (by rw [raiseTimeout_legacy hh])

theorem countOrTimeout_keepsResultOrTimesOut (p : Params) (b : Block) :
    KeepsResultOrTimesOut p b (countOrTimeout p b) := by
  by_cases ht : b.timer + 1 = p.tTimeout
  · rw [countOrTimeout_of_eq ht]
    exact raiseTimeout_keepsResultOrTimesOut p b
  · exact .inl (by rw [countOrTimeout_of_ne ht])

theorem waitLowTick_keepsResultOrTimesOut (p : Params) (l : Bool) (b : Block) :
    KeepsResultOrTimesOut p b (waitLowTick p l b) := by
  cases l with
  | false => exact .inl rfl
  | true => exact countOrTimeout_keepsResultOrTimesOut p b

theorem waitHighTick_keepsResultOrTimesOut (p : Params) (l : Bool) (b : Block) :
    KeepsResultOrTimesOut p b (waitHighTick p l b) := by
  cases l with
  | true =>
    refine .inl ?_
    rw [waitHighTick_high]
    split <;> rfl
  | false =>
    cases hh : p.hardened with
    | true =>
      rw [waitHighTick_low_hardened hh]
      exact countOrTimeout_keepsResultOrTimesOut p b
    | false => exact .inl (by rw [waitHighTick_low_legacy hh])

theorem reqTick_result (p : Params) (b : Block) : (reqTick p b).result = b.result := by
  unfold reqTick; split <;> rfl

/-- The step rules write `result` in two places, the decode and the Timeout of a wait (R32, R89, R120). -/
theorem phaseTick_result_cases {p : Params} {l : Bool} {b c : Block} (h : phaseTick b.phase p l b = .next c) :
    (b.phase = .dec ∧ c = decTick b) ∨ (b.phase = .cap ∧ KeepsResultOrTimesOut p b c) ∨ c.result = b.result := by
  obtain ⟨-, rfl⟩ | ⟨-, rfl⟩ | hdec | ⟨hcap, -, rfl⟩ | ⟨hcap, -, rfl⟩ | ⟨-, -, -, rfl⟩ | ⟨-, -, -, -, rfl⟩ :=
    phaseTick_next h
  · exact .inr (.inr rfl)
  · exact .inr (.inr (reqTick_result p b))
  · exact .inl hdec
  · exact .inr (.inl ⟨hcap, waitLowTick_keepsResultOrTimesOut p l b⟩)
  · exact .inr (.inl ⟨hcap, waitHighTick_keepsResultOrTimesOut p l b⟩)
  · exact .inr (.inr rfl)
  · exact .inr (.inr rfl)

/-- The `result` of a tick's end: kept, or written by reset, by the decode, or by a Timeout with `HARDENED = 1`
(R32). -/
theorem step_result_cases {s t : State} (h : step s = .next t) :
    t.blk.result = s.blk.result ∨
    (s.host.rst = true ∧ t.blk = Block.reset) ∨
    (s.host.rst = false ∧ s.blk.phase = .dec ∧ t.blk = decTick s.blk) ∨
    (s.host.rst = false ∧ s.blk.phase = .cap ∧ s.params.hardened = true ∧
      t.blk = { s.blk with result := .timeout, phase := .idle }) := by
  obtain hreset | ⟨-, -, haccept⟩ | ⟨hr, hrule⟩ := step_blk_cases h
  · exact .inr (.inl hreset)
  · exact .inl (by rw [haccept, acceptPoll_result])
  · obtain hdec | ⟨hcap, hsame | htimeout⟩ | hsame := phaseTick_result_cases hrule
    · exact .inr (.inr (.inl ⟨hr, hdec⟩))
    · exact .inl hsame
    · exact .inr (.inr (.inr ⟨hr, hcap, htimeout⟩))
    · exact .inl hsame

/-- No tick brings ChecksumMismatch into `result` (R123). -/
theorem step_result_ne_checksumMismatch {s t : State} (hne : s.blk.result ≠ .checksumMismatch)
    (h : step s = .next t) : t.blk.result ≠ .checksumMismatch := by
  obtain hsame | ⟨-, hreset⟩ | ⟨-, -, hdec⟩ | ⟨-, -, -, htimeout⟩ := step_result_cases h
  · rwa [hsame]
  · simp [hreset, Block.reset]
  · simp [hdec]
  · simp [htimeout]

/-! ### What every tick keeps -/

/-- What every tick keeps holds at the end of a run if it holds at its start. -/
theorem runTicks_of_step {P : State → Prop} (hstep : ∀ {s t : State}, P s → step s = .next t → P t) {n : Nat}
    {s t : State} (hs : P s) (h : runTicks n s = .next t) : P t := by
  induction n generalizing s with
  | zero =>
    cases h
    exact hs
  | succ n ih =>
    obtain ⟨u, hu, hrun⟩ := runTicks_succ_next h
    exact ih (hstep hs hu) hrun

end Sys2Proof.Machine

namespace Sys2Proof.Proofs.Exceptions

open Sys2Proof Sys2Proof.Machine

/-- Settles O13: a reserved word does not decode, and what acts in its tick beside the response is the step rule of
the phase, as in the silent tick. -/
theorem reservedWordOnlyRaisesRspErr : Obligations.ReservedWordOnlyRaisesRspErr := by
  intro s u w hw h
  obtain ⟨e, he⟩ := decodeWord_of_reserved hw
  exact step_present_of_error he h

/-- Settles O46: reset writes None, the decode Success and a raise Timeout, so every tick keeps `result` clear of
code 2. -/
theorem checksumMismatchIsNeverProduced : Obligations.ChecksumMismatchIsNeverProduced :=
  ⟨rfl, by decide, fun _ _ _ hne h =>
    runTicks_of_step (P := fun s => s.blk.result ≠ .checksumMismatch) step_result_ne_checksumMismatch hne h⟩

end Sys2Proof.Proofs.Exceptions

/-! PROOFS. The statement of 70_reset_and_hazards.md: what a tick with `rst = 1` leaves, whatever the phase. -/

namespace Sys2Proof.Machine

/-- The reset tick ends like every other tick: the inputs used up, the outputs those of `S_t`, and the block of R37
in the place of the block a step rule would leave. -/
theorem resetTick_eq_after (s : State) : resetTick s = s.after Block.reset := rfl

theorem State.busy_eq_false_of_idle {s : State} (h : s.blk.phase = .idle) : s.busy = false := by
  simp [State.busy, h]

theorem State.lineDriveLow_eq_false_of_idle {s : State} (h : s.blk.phase = .idle) : s.lineDriveLow = false :=
  State.lineDriveLow_of_ne_req (by simp [h])

end Sys2Proof.Machine

namespace Sys2Proof.Proofs.Reset

open Sys2Proof Sys2Proof.Machine

/-- Settles O22: the step asks for `rst` before it looks at the phase or the command port (R129), so its tick is the
reset tick; the reset block is in IDLE, where the line is released and the block is not busy. -/
theorem resetTickGivesTheResetBlock : Obligations.ResetTickGivesTheResetBlock := by
  intro s hrst
  have hstep : step s = .next (s.after Block.reset) := by rw [step_of_rst hrst, resetTick_eq_after]
  have hidle : (s.after Block.reset).blk.phase = .idle := rfl
  exact ⟨s.after Block.reset, hstep, rfl, rfl, rfl, hidle, rfl, rfl, rfl, rfl, rfl,
    State.lineDriveLow_eq_false_of_idle hidle, State.busy_eq_false_of_idle hidle⟩

end Sys2Proof.Proofs.Reset

/-! PROOFS. The statement of the whole machine that the others rest on: every step keeps the invariant. First the
facts they share: one tick as a relation between blocks, the invariant field by field, and what each step rule does
to it. -/

namespace Sys2Proof.Machine

/-! ### One tick as a relation between blocks -/

/-- The block `c` after a tick of the block `b`, with the host's ports `h` and the line at level `l` (R129): the reset
block, the block of an accepted `poll()`, or, with a calm host, what the step rule of the phase makes of `b`. -/
inductive BlockStep (h : HostPort) (p : Params) (l : Bool) (b : Block) : Block → Prop where
  | reset (hrst : h.rst = true) : BlockStep h p l b Block.reset
  | accept (hrst : h.rst = false) (hpoll : h.presentsPoll = true) (hidle : b.phase = .idle) :
      BlockStep h p l b (acceptPoll b)
  | rule {c : Block} (hcalm : h.calm = true) (hrule : phaseTick b.phase p l b = .next c) : BlockStep h p l b c

/-- The three ways a tick can end: with a next block, with the fault of a step rule, or with the refusal of a `poll()`
while busy. -/
inductive StepOutcome (s : State) : Host.Outcome State Fault Refusal → Prop where
  | next {c : Block} (hstep : BlockStep s.host s.params s.lineIn s.blk c) : StepOutcome s (.next (s.after c))
  | fault {f : Fault} (hcalm : s.host.calm = true)
      (hrule : phaseTick s.blk.phase s.params s.lineIn s.blk = .fault f) : StepOutcome s (.fault f)
  | refused (hrst : s.host.rst = false) (hpoll : s.host.presentsPoll = true) (hbusy : s.blk.phase ≠ .idle) :
      StepOutcome s (.refused .pollWhileBusy)

/-- With a calm host a fault of the step rule is the fault of the tick. -/
theorem step_of_calm_fault {s : State} {f : Fault} (hc : s.host.calm = true)
    (hf : phaseTick s.blk.phase s.params s.lineIn s.blk = .fault f) : step s = .fault f := by
  obtain ⟨hr, hp⟩ := (calm_iff s.host).1 hc
  obtain ⟨s', he, hblk⟩ := exists_presentedEffect_of_not_presentsPoll hp
  rw [step_of_presentedEffect hr he, endTick, hblk, hf]

theorem BlockStep.step_eq {s : State} {c : Block} (h : BlockStep s.host s.params s.lineIn s.blk c) :
    step s = .next (s.after c) := by
  cases h with
  | reset hrst => rw [step_of_rst hrst]; rfl
  | accept hrst hpoll hidle => exact step_of_poll_idle hrst hpoll hidle
  | rule hcalm hrule => exact step_of_calm hcalm hrule

/-- With a calm host the tick ends as the step rule of the phase does. -/
theorem stepOutcome_of_calm {s : State} (hc : s.host.calm = true) : StepOutcome s (step s) := by
  cases hrule : phaseTick s.blk.phase s.params s.lineIn s.blk with
  | next c => rw [step_of_calm hc hrule]; exact .next (.rule hc hrule)
  | fault f => rw [step_of_calm_fault hc hrule]; exact .fault hc hrule
  | refused r => exact absurd hrule (phaseTick_ne_refused _ _ _ _ r)

/-- Everything a step can do. -/
theorem stepOutcome (s : State) : StepOutcome s (step s) := by
  cases hr : s.host.rst with
  | true => rw [(BlockStep.reset hr).step_eq]; exact .next (.reset hr)
  | false =>
    cases hp : s.host.presentsPoll with
    | false => exact stepOutcome_of_calm ((calm_iff s.host).2 ⟨hr, hp⟩)
    | true =>
      by_cases hidle : s.blk.phase = .idle
      · rw [step_of_poll_idle hr hp hidle]; exact .next (.accept hr hp hidle)
      · rw [step_of_poll_busy hr hp hidle]; exact .refused hr hp hidle

/-- A step with a next state is a tick of the block, and everything else of the next state follows from the block. -/
theorem step_iff_blockStep {s t : State} :
    step s = .next t ↔ ∃ c, BlockStep s.host s.params s.lineIn s.blk c ∧ t = s.after c := by
  constructor
  · intro h
    have hout := stepOutcome s
    rw [h] at hout
    cases hout with
    | next hstep => exact ⟨_, hstep, rfl⟩
  · rintro ⟨c, hstep, rfl⟩
    exact hstep.step_eq

theorem step_next_eq_after {s t : State} (h : step s = .next t) : t = s.after t.blk := by
  obtain ⟨c, -, rfl⟩ := step_iff_blockStep.1 h
  rfl

theorem blockStep_of_step {s t : State} (h : step s = .next t) :
    BlockStep s.host s.params s.lineIn s.blk t.blk := by
  obtain ⟨c, hstep, rfl⟩ := step_iff_blockStep.1 h
  exact hstep

theorem step_params {s t : State} (h : step s = .next t) : t.params = s.params := by
  rw [step_next_eq_after h, State_after_params]

/-! ### The invariant, field by field -/

/-- What `State.inv` says of the block under the parameters `p`. -/
structure Block.Inv (p : Params) (b : Block) : Prop where
  slots : b.slotsBinary = true
  reqPos : b.reqPos < nReq p
  bitIdx : b.bitIdx ≤ 33
  timer : b.timer ≤ max p.tSample (p.tTimeout - 1)
  facts : b.phaseFacts p = true
  result : b.resultLegal p = true

theorem State.inv_iff_block (s : State) : s.inv = true ↔ s.params.wellFormed = true ∧ s.blk.Inv s.params := by
  rw [s.inv_iff, Block.countersBounded]
  simp only [Bool.and_eq_true, decide_eq_true_eq]
  constructor
  · rintro ⟨hwf, hslots, ⟨⟨hpos, hidx⟩, htimer⟩, hfacts, hres⟩
    exact ⟨hwf, hslots, hpos, hidx, htimer, hfacts, hres⟩
  · rintro ⟨hwf, h⟩
    exact ⟨hwf, h.slots, ⟨⟨h.reqPos, h.bitIdx⟩, h.timer⟩, h.facts, h.result⟩

theorem Params.tSample_pos {p : Params} (h : p.wellFormed = true) : 0 < p.tSample := by
  simp only [Params.wellFormed, Bool.and_eq_true, decide_eq_true_eq] at h
  obtain ⟨⟨⟨⟨-, hsample⟩, -⟩, -⟩, -⟩ := h
  exact hsample

theorem Block.phaseFacts_req {p : Params} {b : Block} (hreq : b.phase = .req) :
    b.phaseFacts p = true ↔ b.raw = Vector.replicate 33 0x00#8 := by
  simp [Block.phaseFacts, hreq]

theorem Block.phaseFacts_dec {p : Params} {b : Block} (hdec : b.phase = .dec) :
    b.phaseFacts p = true ↔ b.restZero = true ∧ (p.hardened = true → b.bitIdx = 33) := by
  cases hh : p.hardened <;> simp [Block.phaseFacts, hdec, hh]

theorem Block.cellCounters_waitLow {p : Params} {b : Block} (hsub : b.sub = .waitLow) :
    b.cellCounters p = true ↔ b.bitIdx ≤ 32 ∧ b.timer < p.tTimeout := by
  simp [Block.cellCounters, hsub]

theorem Block.cellCounters_delay {p : Params} {b : Block} (hsub : b.sub = .delay) :
    b.cellCounters p = true ↔ b.bitIdx ≤ 32 ∧ 1 ≤ b.timer ∧ b.timer ≤ p.tSample := by
  simp [Block.cellCounters, hsub, and_assoc]

theorem Block.cellCounters_waitHigh {p : Params} {b : Block} (hsub : b.sub = .waitHigh) :
    b.cellCounters p = true ↔ 1 ≤ b.bitIdx ∧ b.timer < p.tTimeout := by
  simp [Block.cellCounters, hsub]

theorem Block.restZero_iff (b : Block) :
    b.restZero = true ↔ ∀ (j : Nat) (hj : j < 33), b.bitIdx ≤ j → b.raw[j] = 0x00#8 := by
  simp only [Block.restZero, List.all_eq_true, beq_iff_eq, List.mem_drop_iff_getElem]
  constructor
  · intro h j hj hle
    exact h _ ⟨j - b.bitIdx, by simp; omega, by simp [Nat.add_sub_cancel' hle]⟩
  · rintro h v ⟨k, hk, rfl⟩
    exact h (b.bitIdx + k) (by simpa [Nat.add_comm] using hk) (by omega)

theorem Block.phaseFacts_of_cap {p : Params} {b : Block} (hcap : b.phase = .cap) (hcell : b.cellCounters p = true)
    (hrest : b.restZero = true) : b.phaseFacts p = true :=
  (Block.phaseFacts_cap hcap).2 ⟨hcell, hrest⟩

theorem Block.phaseFacts_of_waitLow {p : Params} {b : Block} (hcap : b.phase = .cap) (hsub : b.sub = .waitLow)
    (hidx : b.bitIdx ≤ 32) (htimer : b.timer < p.tTimeout) (hrest : b.restZero = true) : b.phaseFacts p = true :=
  Block.phaseFacts_of_cap hcap ((Block.cellCounters_waitLow hsub).2 ⟨hidx, htimer⟩) hrest

theorem Block.phaseFacts_of_delay {p : Params} {b : Block} (hcap : b.phase = .cap) (hsub : b.sub = .delay)
    (hidx : b.bitIdx ≤ 32) (hpos : 1 ≤ b.timer) (htimer : b.timer ≤ p.tSample) (hrest : b.restZero = true) :
    b.phaseFacts p = true :=
  Block.phaseFacts_of_cap hcap ((Block.cellCounters_delay hsub).2 ⟨hidx, hpos, htimer⟩) hrest

theorem Block.phaseFacts_of_waitHigh {p : Params} {b : Block} (hcap : b.phase = .cap) (hsub : b.sub = .waitHigh)
    (hidx : 1 ≤ b.bitIdx) (htimer : b.timer < p.tTimeout) (hrest : b.restZero = true) : b.phaseFacts p = true :=
  Block.phaseFacts_of_cap hcap ((Block.cellCounters_waitHigh hsub).2 ⟨hidx, htimer⟩) hrest

section
variable {p : Params} {b : Block} (h : b.Inv p)
include h

theorem Block.Inv.capFacts (hcap : b.phase = .cap) : b.cellCounters p = true ∧ b.restZero = true :=
  (Block.phaseFacts_cap hcap).1 h.facts

theorem Block.Inv.waitLowCounters (hcap : b.phase = .cap) (hsub : b.sub = .waitLow) :
    b.bitIdx ≤ 32 ∧ b.timer < p.tTimeout :=
  (Block.cellCounters_waitLow hsub).1 (h.capFacts hcap).1

theorem Block.Inv.delayCounters (hcap : b.phase = .cap) (hsub : b.sub = .delay) :
    b.bitIdx ≤ 32 ∧ 1 ≤ b.timer ∧ b.timer ≤ p.tSample :=
  (Block.cellCounters_delay hsub).1 (h.capFacts hcap).1

theorem Block.Inv.waitHighCounters (hcap : b.phase = .cap) (hsub : b.sub = .waitHigh) :
    1 ≤ b.bitIdx ∧ b.timer < p.tTimeout :=
  (Block.cellCounters_waitHigh hsub).1 (h.capFacts hcap).1

end

/-! ### What each tick does to the invariant -/

theorem reset_inv {p : Params} (hwf : p.wellFormed = true) : Block.reset.Inv p where
  slots := reset_slotsBinary
  reqPos := nReq_pos hwf
  bitIdx := Nat.zero_le 33
  timer := Nat.zero_le _
  facts := rfl
  result := rfl

theorem acceptPoll_inv {p : Params} {b : Block} (hwf : p.wellFormed = true) (h : b.Inv p) : (acceptPoll b).Inv p :=
  { h with
    slots := acceptPoll_slotsBinary b
    reqPos := nReq_pos hwf
    facts := (Block.phaseFacts_req rfl).2 rfl }

theorem restZero_of_raw_eq {b : Block} (hraw : b.raw = Vector.replicate 33 0x00#8) : b.restZero = true :=
  b.restZero_iff.2 fun j hj _ => by simp [hraw]

theorem reqTick_inv {p : Params} {b : Block} (hwf : p.wellFormed = true) (h : b.Inv p) (hreq : b.phase = .req) :
    (reqTick p b).Inv p := by
  have hraw := (Block.phaseFacts_req hreq).1 h.facts
  by_cases hlast : b.reqPos + 1 = nReq p
  · rw [reqTick_of_last hlast]
    exact { h with
      bitIdx := Nat.zero_le 33
      timer := Nat.zero_le _
      facts := Block.phaseFacts_of_waitLow rfl rfl (Nat.zero_le 32) (Params.tTimeout_pos hwf)
        (restZero_of_raw_eq hraw) }
  · have hlt : b.reqPos + 1 < nReq p := by have := h.reqPos; omega
    rw [reqTick_of_lt hlt]
    exact { h with reqPos := hlt, facts := (Block.phaseFacts_req hreq).2 hraw }

/-- A raise of Timeout in CAP ends the poll with `HARDENED = 1`, and with `HARDENED = 0` leads to a decode that finds
the slots not reached clear (R120, R121). -/
theorem raiseTimeout_inv {p : Params} {b : Block} (h : b.Inv p) (hcap : b.phase = .cap) : (raiseTimeout p b).Inv p := by
  cases hh : p.hardened with
  | true =>
    rw [raiseTimeout_hardened hh]
    exact { h with facts := rfl, result := hh }
  | false =>
    have hrest := (h.capFacts hcap).2
    rw [raiseTimeout_legacy hh]
    exact { h with facts := (Block.phaseFacts_dec rfl).2 ⟨hrest, by simp [hh]⟩ }

/-- The count of a wait stays below `T_TIMEOUT`, where the wait gives up (R31). -/
theorem countOrTimeout_inv {p : Params} {b : Block} (h : b.Inv p) (hcap : b.phase = .cap)
    (hlt : b.timer < p.tTimeout)
    (hcell : b.timer + 1 < p.tTimeout → ({ b with timer := b.timer + 1 } : Block).cellCounters p = true) :
    (countOrTimeout p b).Inv p := by
  by_cases ht : b.timer + 1 = p.tTimeout
  · rw [countOrTimeout_of_eq ht]
    exact raiseTimeout_inv h hcap
  · have hlt' : b.timer + 1 < p.tTimeout := by omega
    rw [countOrTimeout_of_ne ht]
    exact { h with
      timer := le_max_of_le_right (Nat.le_sub_one_of_lt hlt')
      facts := Block.phaseFacts_of_cap hcap (hcell hlt') (h.capFacts hcap).2 }

theorem waitLowTick_inv {p : Params} {b : Block} (hwf : p.wellFormed = true) (h : b.Inv p) (hcap : b.phase = .cap)
    (hsub : b.sub = .waitLow) (l : Bool) : (waitLowTick p l b).Inv p := by
  obtain ⟨hidx, hlt⟩ := h.waitLowCounters hcap hsub
  have hpos := Params.tSample_pos hwf
  cases l with
  | false =>
    rw [waitLowTick_low]
    exact { h with
      timer := le_max_of_le_left hpos
      facts := Block.phaseFacts_of_delay hcap rfl hidx le_rfl hpos (h.capFacts hcap).2 }
  | true =>
    rw [waitLowTick_high]
    exact countOrTimeout_inv h hcap hlt fun hlt' => Iff.mpr (Block.cellCounters_waitLow hsub) ⟨hidx, hlt'⟩

theorem delayCount_inv {p : Params} {b : Block} (h : b.Inv p) (hcap : b.phase = .cap) (hsub : b.sub = .delay)
    (hne : b.timer ≠ p.tSample) : ({ b with timer := b.timer + 1 } : Block).Inv p := by
  obtain ⟨hidx, -, hle⟩ := h.delayCounters hcap hsub
  have hle' : b.timer + 1 ≤ p.tSample := by omega
  exact { h with
    timer := le_max_of_le_left hle'
    facts := Block.phaseFacts_of_delay hcap hsub hidx (Nat.le_add_left 1 _) hle' (h.capFacts hcap).2 }

/-- The sample leaves the slots above the one it writes clear (R81). -/
theorem restZero_sampled {b : Block} (h : b.restZero = true) (l : Bool) : (b.sampled l).restZero = true := by
  rw [Block.restZero_iff] at h ⊢
  intro j hj (hle : b.bitIdx + 1 ≤ j)
  simp only [Block.sampled]
  rw [Vector.getElem_setIfInBounds_ne hj (by omega), h j hj (by omega)]

theorem sampled_slotsBinary {b : Block} (h : b.slotsBinary = true) (l : Bool) : (b.sampled l).slotsBinary = true := by
  rw [slotsBinary_iff] at h ⊢
  intro j hj
  simp only [Block.sampled, Vector.getElem_setIfInBounds]
  split
  · exact zext8_zero_or_one l
  · exact h j hj

theorem sampled_inv {p : Params} {b : Block} (hwf : p.wellFormed = true) (h : b.Inv p) (hcap : b.phase = .cap)
    (hsub : b.sub = .delay) (l : Bool) : (b.sampled l).Inv p := by
  obtain ⟨hidx, -, -⟩ := h.delayCounters hcap hsub
  exact { h with
    slots := sampled_slotsBinary h.slots l
    bitIdx := Nat.succ_le_succ hidx
    timer := Nat.zero_le _
    facts := Block.phaseFacts_of_waitHigh hcap rfl (Nat.le_add_left 1 _) (Params.tTimeout_pos hwf)
      (restZero_sampled (h.capFacts hcap).2 l) }

theorem waitHighTick_inv {p : Params} {b : Block} (hwf : p.wellFormed = true) (h : b.Inv p) (hcap : b.phase = .cap)
    (hsub : b.sub = .waitHigh) (l : Bool) : (waitHighTick p l b).Inv p := by
  obtain ⟨hidx, hlt⟩ := h.waitHighCounters hcap hsub
  have hrest := (h.capFacts hcap).2
  cases l with
  | true =>
    rw [waitHighTick_high]
    by_cases hstop : b.bitIdx = 33
    · rw [if_pos hstop]
      exact { h with facts := (Block.phaseFacts_dec rfl).2 ⟨hrest, fun _ => hstop⟩ }
    · have hle : b.bitIdx ≤ 32 := by have := h.bitIdx; omega
      rw [if_neg hstop]
      exact { h with
        timer := Nat.zero_le _
        facts := Block.phaseFacts_of_waitLow hcap rfl hle (Params.tTimeout_pos hwf) hrest }
  | false =>
    cases hh : p.hardened with
    | false => rwa [waitHighTick_low_legacy hh]
    | true =>
      rw [waitHighTick_low_hardened hh]
      exact countOrTimeout_inv h hcap hlt fun hlt' => Iff.mpr (Block.cellCounters_waitHigh hsub) ⟨hidx, hlt'⟩

theorem decTick_inv {p : Params} {b : Block} (h : b.Inv p) : (decTick b).Inv p :=
  { h with facts := rfl, result := rfl }

/-- Whatever step rule acts, it keeps the invariant. -/
theorem phaseTick_inv {p : Params} {l : Bool} {b c : Block} (hwf : p.wellFormed = true) (h : b.Inv p)
    (hrule : phaseTick b.phase p l b = .next c) : c.Inv p := by
  obtain ⟨-, rfl⟩ | ⟨hreq, rfl⟩ | ⟨-, rfl⟩ | ⟨hcap, hsub, rfl⟩ | ⟨hcap, hsub, rfl⟩ | ⟨hcap, hsub, hne, rfl⟩ |
    ⟨hcap, hsub, -, hlt, rfl⟩ := phaseTick_next hrule
  · exact h
  · exact reqTick_inv hwf h hreq
  · exact decTick_inv h
  · exact waitLowTick_inv hwf h hcap hsub l
  · exact waitHighTick_inv hwf h hcap hsub l
  · exact delayCount_inv h hcap hsub hne
  · rw [set_eq_setIfInBounds]
    exact sampled_inv hwf h hcap hsub l

theorem BlockStep.inv {h : HostPort} {p : Params} {l : Bool} {b c : Block} (hstep : BlockStep h p l b c)
    (hwf : p.wellFormed = true) (hb : b.Inv p) : c.Inv p := by
  cases hstep with
  | reset _ => exact reset_inv hwf
  | accept _ _ _ => exact acceptPoll_inv hwf hb
  | rule _ hrule => exact phaseTick_inv hwf hb hrule

end Sys2Proof.Machine

namespace Sys2Proof.Proofs.Invariant

open Sys2Proof Sys2Proof.Machine

/-- Settles O51: the parameters stay, and each of the three ticks of a block, the reset, the accept of a `poll()` and
the step rule of the phase, keeps what the invariant says of it. -/
theorem stepKeepsTheInvariant : Obligations.StepKeepsTheInvariant := by
  intro s t hinv hstep
  obtain ⟨hwf, hblk⟩ := s.inv_iff_block.1 hinv
  obtain ⟨c, hc, rfl⟩ := step_iff_blockStep.1 hstep
  exact (s.after c).inv_iff_block.2 ⟨hwf, hc.inv hwf hblk⟩

/-- Settles O50: the default parameters are legal, and the reset block meets the invariant under any that are. -/
theorem resetMeetsTheInvariant : Obligations.ResetMeetsTheInvariant :=
  State.reset.inv_iff_block.2 ⟨by decide, reset_inv (by decide)⟩

/-- Settles O52: the only fault is the sample into a slot above 32, and in DELAY the invariant has `bit_idx` at 32 or
below. -/
theorem invariantStatesDoNotFault : Obligations.InvariantStatesDoNotFault := by
  intro s f hinv hfault
  obtain ⟨-, hblk⟩ := s.inv_iff_block.1 hinv
  have hout := stepOutcome s
  rw [hfault] at hout
  cases hout with
  | fault _ hrule =>
    obtain ⟨hcap, hsub, -, hge, -⟩ := phaseTick_fault hrule
    obtain ⟨hle, -, -⟩ := hblk.delayCounters hcap hsub
    omega

/-- Settles O53: of the three ways a tick can end, one is a refusal, and it is that of a `poll()` while busy. -/
theorem stepRefusesExactlyPollWhileBusy : Obligations.StepRefusesExactlyPollWhileBusy := by
  refine fun s r => ⟨fun hr => ?_, ?_⟩
  · have hout := stepOutcome s
    rw [hr] at hout
    cases hout with
    | refused hrst hpoll hbusy => exact ⟨rfl, hrst, hpoll, hbusy⟩
  · rintro ⟨rfl, hrst, hpoll, hbusy⟩
    exact step_of_poll_busy hrst hpoll hbusy

end Sys2Proof.Proofs.Invariant

/-! PROOFS. The statements of 30_encoding.md and of one tick that were left: the command words, the accept of a
`poll()`, the tick of a query, the outputs shown, and the sample outside the slot space. First the facts they share:
the host ports of a query and the answers over a clear snapshot. -/

namespace Sys2Proof.Machine

/-! ### The words that decode -/

/-- The decoder answers an operation for every word that R60 does not list. -/
theorem isOk_decodeWord_or_reserved :
    ∀ w : CmdWord, (decodeWord w).isOk = true ∨ (w = 0x0E#5 ∨ w = 0x0F#5 ∨ 0x14 ≤ w.toNat) := by decide

/-! ### The tick of a query -/

/-- A host that presents a query is calm. -/
theorem calm_of_query {i : Instr} (hi : i ≠ .poll) : HostPort.calm ⟨false, true, encode i⟩ = true := by
  cases i with
  | poll => exact absurd rfl hi
  | _ => rfl

/-- The outputs of a tick that presents an operation are those of the silent tick but for the response (R34, R61). -/
theorem outputs_present_encode (s : State) (i : Instr) :
    (s.present (encode i)).outputs =
      { s.silenced.outputs with rspData := (responseOf s.blk (encode i)).1, rspErr := false } := by
  have hout : (s.present (encode i)).outputs =
      { s.silenced.outputs with
        rspData := (responseOf s.blk (encode i)).1, rspErr := (responseOf s.blk (encode i)).2 } := rfl
  rw [hout, responseOf_encode_err]

/-- A silent tick is the step rule of the phase. -/
theorem phaseTick_of_step_silenced {s u : State} (h : step s.silenced = .next u) :
    ∃ c, phaseTick s.blk.phase s.params s.lineIn s.blk = .next c ∧ u = s.silenced.after c := by
  obtain ⟨c, hstep, rfl⟩ := step_iff_blockStep.1 h
  cases hstep with
  | reset hrst => cases hrst
  | accept _ hpoll _ => cases hpoll
  | rule _ hrule => exact ⟨c, hrule, rfl⟩

/-! ### The answers over a clear snapshot -/

/-- No answer but that of `pollResult()` depends on more of the block than the snapshot (R61). -/
theorem responseOf_congr_snap {b c : Block} {i : Instr} (hi : i ≠ .pollResult) (h : b.snap = c.snap) :
    (responseOf b (encode i)).1 = (responseOf c (encode i)).1 := by
  cases i with
  | pollResult => exact absurd rfl hi
  | poll => rfl
  | stickX => exact congrArg Snapshot.stickX h
  | stickY => exact congrArg Snapshot.stickY h
  | _ =>
    rw [responseOf_query rfl (responseOf_encode_err _ b), responseOf_query rfl (responseOf_encode_err _ c), h]

theorem responseOf_reset {i : Instr} (hi : i ≠ .pollResult) : (responseOf Block.reset (encode i)).1 = 0x00#8 := by
  cases i with
  | pollResult => exact absurd rfl hi
  | _ => decide

/-- Over a clear snapshot the output table shows `0x00` for every predicate and axis read, and the code of `result` for
`pollResult()` (R61). -/
theorem responseOf_of_clear {b : Block} (i : Instr) (hclear : b.snap = Block.reset.snap) :
    (responseOf b (encode i)).1 = if i = .pollResult then b.result.code.setWidth 8 else 0x00#8 := by
  by_cases hi : i = .pollResult
  · rw [if_pos hi, hi]
    rfl
  · rw [if_neg hi, responseOf_congr_snap hi hclear, responseOf_reset hi]

theorem exec_query_of_clear {s : State} {i : Instr} (hi : i ≠ .poll) (hclear : s.blk.snap = Block.reset.snap) :
    exec i s = .next (s.answered (if i = .pollResult then s.blk.result.code.setWidth 8 else 0x00#8)) := by
  rw [exec_query_responseOf i s hi, responseOf_of_clear i hclear]
  rfl

end Sys2Proof.Machine

namespace Sys2Proof.Proofs.Encoding

open Sys2Proof Sys2Proof.Machine

/-- Settles O1: operation by operation, by the table of words. -/
theorem decodeOfEncodeIsTheOperation : Obligations.DecodeOfEncodeIsTheOperation := by
  intro i
  cases i <;> rfl

/-- Settles O2: the encoder inverts the decoder on the words that decode. -/
theorem decodedWordIsTheEncodingOfItsOperation : Obligations.DecodedWordIsTheEncodingOfItsOperation :=
  fun _ _ h => encode_of_decodeWord h

/-- Settles O3: a word that R60 does not list decodes, and the listed ones do not. -/
theorem reservedWordsAreTheFourteenListed : Obligations.ReservedWordsAreTheFourteenListed := by
  refine fun w => ⟨?_, decodeWord_of_reserved⟩
  rintro ⟨e, he⟩
  exact (isOk_decodeWord_or_reserved w).resolve_left (by simp [he, Except.isOk, Except.toBool])

/-- Settles O4: the decoder evaluated on each word. -/
theorem writtenWordsDecode : Obligations.WrittenWordsDecode :=
  ⟨rfl, rfl, rfl, rfl, rfl, rfl, rfl⟩

end Sys2Proof.Proofs.Encoding

namespace Sys2Proof.Proofs.OneTick

open Sys2Proof Sys2Proof.Machine

/-- Settles O5: without reset the presented operation is the effect of the tick, and the step rule ends it. -/
theorem stepRunsTheDecodedOperation : Obligations.StepRunsTheDecodedOperation := by
  rintro s w i hr hv rfl hw
  have hp : s.presented = some s.host.cmdOp := (s.presented_eq_some_iff _).2 ⟨hv, rfl⟩
  refine ⟨fun s' b he hb => ?_, fun s' f he hf => ?_, fun r he => ?_⟩
  · rw [step_of_presentedEffect hr (.operation hp hw he), endTick_of_phaseTick hb]
    rfl
  · rw [step_of_presentedEffect hr (.operation hp hw he), endTick, hf]
  · simp [step, hr, hp, hw, he]

/-- Settles O10: in IDLE the arm of `poll()` is the accept. -/
theorem pollIsAcceptedInIdle : Obligations.PollIsAcceptedInIdle := by
  refine ⟨rfl, fun s hidle => ?_⟩
  obtain ⟨-, ha⟩ | ⟨hbusy, -⟩ := execPoll_cases s
  · exact ha
  · exact absurd hidle hbusy

/-- Settles O12: the query answers its row of the output table and its host is calm, so the tick with it and the silent
tick are the same step rule and differ in the response alone. -/
theorem queryTickOnlyAddsTheAnswer : Obligations.QueryTickOnlyAddsTheAnswer := by
  intro s u i hi h
  obtain ⟨c, hrule, rfl⟩ := phaseTick_of_step_silenced h
  have hstep : step (s.present (encode i)) = .next ((s.present (encode i)).after c) :=
    step_of_calm (calm_of_query hi) hrule
  refine ⟨_, exec_query_responseOf i s hi, ?_⟩
  rw [hstep, State.after, outputs_present_encode]
  rfl

/-- Settles O14: every tick with a next state ends as `State.after` says, whatever the block does. -/
theorem stepShowsTheOutputsOfTheTick : Obligations.StepShowsTheOutputsOfTheTick := by
  intro s t h
  rw [step_next_eq_after h]
  exact ⟨rfl, rfl, rfl, rfl⟩

/-- Settles O19: with a calm host the tick is the step rule of DELAY, whose store asks for a slot that is not there. -/
theorem sampleAboveTheSlotSpaceFaults : Obligations.SampleAboveTheSlotSpaceFaults := by
  intro s hc hcap hsub ht hidx
  refine step_of_calm_fault hc ?_
  rw [phaseTick_of_delay hcap hsub, delayTick, if_pos ht, writeSlot_of_ge _ _ _ hidx]

/-- Settles O24: the snapshot of the reset block is clear and its `result` is None. -/
theorem queriesAfterResetAreNeutral : Obligations.QueriesAfterResetAreNeutral := by
  refine ⟨fun s i hreset hi => ?_, by decide⟩
  rw [exec_query_of_clear hi (by rw [hreset]), hreset]
  rfl

end Sys2Proof.Proofs.OneTick

/-! PROOFS. The statements that were left of the request wave and of the decode: the wave's two ends and its length,
the slot map, the round trip of the 32 slots and the zero buffer. First the facts they share: the length of a wave,
and the bits of a snapshot in transmission order. -/

namespace Sys2Proof.Machine

/-! ### The request wave -/

/-- `N_REQ` is the sum of the pulses' ticks (R9). -/
theorem nReq_eq_sum (p : Params) : nReq p = (p.reqPulses.map fun q => q.low + q.high).sum := by
  simp [nReq, reqWave, pulseWave, List.length_flatMap]

/-- A legal request begins with a pulse that pulls low and releases again (R9). -/
theorem exists_first_pulse {p : Params} (h : p.wellFormed = true) :
    ∃ q qs, p.reqPulses = q :: qs ∧ 1 ≤ q.low ∧ 1 ≤ q.high := by
  simp only [Params.wellFormed, Bool.and_eq_true, Bool.not_eq_true', List.isEmpty_eq_false_iff, List.all_eq_true] at h
  obtain ⟨⟨-, hne⟩, hall⟩ := h
  obtain ⟨q, qs, hq⟩ := List.exists_cons_of_ne_nil hne
  have hpulse := hall q (by simp [hq])
  simp only [ReqPulse.wellFormed, Bool.and_eq_true, decide_eq_true_eq] at hpulse
  exact ⟨q, qs, hq, hpulse⟩

theorem reqWave_head? {p : Params} (h : p.wellFormed = true) : (reqWave p).head? = some true := by
  obtain ⟨q, qs, hq, hlow, -⟩ := exists_first_pulse h
  simp [reqWave, hq, pulseWave, List.head?_append, List.head?_replicate, show q.low ≠ 0 by omega]

theorem two_le_nReq {p : Params} (h : p.wellFormed = true) : 2 ≤ nReq p := by
  obtain ⟨q, qs, hq, hlow, hhigh⟩ := exists_first_pulse h
  rw [nReq_eq_sum, hq, List.map_cons, List.sum_cons]
  omega

/-! ### The bits of a snapshot in transmission order -/

theorem packSnapshot_field (raw : Vector Byte 33) (f : Fin 4) :
    (packSnapshot raw).field f = pack8 raw (8 * f.val) := by
  match f with
  | 0 => rfl
  | 1 => rfl
  | 2 => rfl
  | 3 => rfl

/-- Bit `i` of the transmission pattern of a decoded snapshot is bit 0 of slot `i` (R39, R93). -/
theorem frameBit_packSnapshot (raw : Vector Byte 33) (i : Fin 32) : frameBit (packSnapshot raw) i = slotBit raw i := by
  rw [frameBit, packSnapshot_field, byteBit, pack8_getLsbD _ _ _ (Nat.mod_lt _ (by decide)), Nat.div_add_mod]

/-- The transmission pattern determines each field. -/
theorem field_eq_of_frameBit {a b : Snapshot} (h : ∀ i, frameBit a i = frameBit b i) (f : Fin 4) :
    a.field f = b.field f := by
  refine BitVec.eq_of_getLsbD_eq fun k hk => ?_
  have hdiv : (8 * f.val + (7 - k)) / 8 = f.val := by omega
  have hmod : 7 - (8 * f.val + (7 - k)) % 8 = k := by omega
  simpa only [frameBit, byteBit, hdiv, hmod] using h ⟨8 * f.val + (7 - k), by omega⟩

/-- A snapshot is its transmission pattern (R93). -/
theorem eq_of_frameBit {a b : Snapshot} (h : ∀ i, frameBit a i = frameBit b i) : a = b := by
  have hfield := field_eq_of_frameBit h
  obtain ⟨d1, d2, x, y⟩ := a
  obtain ⟨d1', d2', x', y'⟩ := b
  exact (Snapshot.mk.injEq ..).mpr ⟨hfield 0, hfield 1, hfield 2, hfield 3⟩

/-- Slots that encode a snapshot decode to it (R93). -/
theorem packSnapshot_of_frameBit {sn : Snapshot} {raw : Vector Byte 33}
    (h : ∀ i : Fin 32, raw[i.val]'(by omega) = if frameBit sn i then 0x01#8 else 0x00#8) : packSnapshot raw = sn := by
  refine eq_of_frameBit fun i => ?_
  rw [frameBit_packSnapshot, slotBit_of_lt raw i (by omega), h i]
  cases frameBit sn i <;> rfl

/-- 32 clear slots decode to the clear snapshot (R94). -/
theorem packSnapshot_of_zero {raw : Vector Byte 33} (h : ∀ i : Fin 32, raw[i.val]'(by omega) = 0x00#8) :
    packSnapshot raw = Block.reset.snap := by
  have hclear : ∀ i, frameBit Block.reset.snap i = false := by decide
  exact packSnapshot_of_frameBit fun i => by rw [h i, hclear i]; rfl

end Sys2Proof.Machine

namespace Sys2Proof.Proofs.WaveAndSlots

open Sys2Proof Sys2Proof.Machine

/-- Settles O26: the first pulse is low first, the last one high last, and each pulse is as long as its two parts. -/
theorem requestWaveEndsReleased : Obligations.RequestWaveEndsReleased :=
  fun p h => ⟨reqWave_getLast? h, reqWave_head? h, two_le_nReq h, nReq_eq_sum p⟩

/-- Settles O35: field `i / 8` packs the eight slots from `8 * (i / 8)` on, the first as its bit 7. -/
theorem slotFeedsItsSnapshotBit : Obligations.SlotFeedsItsSnapshotBit :=
  fun raw i => (frameBit_packSnapshot raw i).trans (slotBit_of_lt raw i _)

/-- Settles O37: a snapshot is its transmission pattern, which for a decoded one is bit 0 of each slot, and a slot of 0
or 1 is its bit 0. -/
theorem decodeIsABijection : Obligations.DecodeIsABijection := by
  refine ⟨fun sn raw h => packSnapshot_of_frameBit h, fun raw hbin i => ?_⟩
  rw [frameBit_packSnapshot, slotBit_of_lt raw i (by omega)]
  obtain hz | ho := hbin i
  · rw [hz]; rfl
  · rw [ho]; rfl

/-- Settles O38: the tick is the decode, which makes the clear snapshot of the clear slots and writes Success, whose
code is `0x00`. -/
theorem zeroBufferReadsNeutral : Obligations.ZeroBufferReadsNeutral := by
  intro s hc hdec hzero
  have hclear : (s.after (decTick s.blk)).blk.snap = Block.reset.snap := packSnapshot_of_zero hzero
  refine ⟨_, step_of_dec hc hdec, hclear, fun i hi => ?_⟩
  rw [exec_query_of_clear hi hclear, State_after_blk, decTick_result]
  exact congrArg (fun v => Host.Outcome.next (State.answered _ v)) (ite_self _)

end Sys2Proof.Proofs.WaveAndSlots

/-! PROOFS. The statements of what a tick may change: `result`, the phase, the slots and the parameters. First the
facts they share: which blocks the step rules of CAP can leave, and who writes a slot. -/

namespace Sys2Proof.Machine

/-! ### The phase through the step rules -/

theorem State.busy_iff (s : State) : s.busy = true ↔ s.blk.phase ≠ .idle := by simp [State.busy]

theorem State.not_busy_iff (s : State) : s.busy = false ↔ s.blk.phase = .idle := by simp [State.busy]

/-- `c` is in the phase of `b`, or it goes to the decode, or it is `b` after a Timeout with `HARDENED = 1`. -/
def KeepsPhaseOrEnds (p : Params) (b c : Block) : Prop :=
  c.phase = b.phase ∨ c.phase = .dec ∨ (p.hardened = true ∧ c = { b with result := .timeout, phase := .idle })

theorem countOrTimeout_keepsPhaseOrEnds (p : Params) (b : Block) : KeepsPhaseOrEnds p b (countOrTimeout p b) := by
  by_cases ht : b.timer + 1 = p.tTimeout
  · rw [countOrTimeout_of_eq ht]
    cases hh : p.hardened with
    | true => exact .inr (.inr ⟨hh, raiseTimeout_hardened hh b⟩)
    | false => exact .inr (.inl (by rw [raiseTimeout_legacy hh]))
  · exact .inl (by rw [countOrTimeout_of_ne ht])

theorem waitLowTick_keepsPhaseOrEnds (p : Params) (l : Bool) (b : Block) :
    KeepsPhaseOrEnds p b (waitLowTick p l b) := by
  cases l with
  | false => exact .inl rfl
  | true => exact countOrTimeout_keepsPhaseOrEnds p b

theorem waitHighTick_keepsPhaseOrEnds (p : Params) (l : Bool) (b : Block) :
    KeepsPhaseOrEnds p b (waitHighTick p l b) := by
  cases l with
  | true =>
    rw [waitHighTick_high]
    split
    · exact .inr (.inl rfl)
    · exact .inl rfl
  | false =>
    cases hh : p.hardened with
    | true =>
      rw [waitHighTick_low_hardened hh]
      exact countOrTimeout_keepsPhaseOrEnds p b
    | false => exact .inl (by rw [waitHighTick_low_legacy hh])

/-- The step rule of REQ stays there or begins the capture (R74). -/
theorem reqTick_phase {p : Params} {b : Block} (hreq : b.phase = .req) :
    (reqTick p b).phase = .req ∨ (reqTick p b).phase = .cap := by
  unfold reqTick
  split
  · exact .inr rfl
  · exact .inl hreq

/-- Where the step rule of each phase can lead (R27, R77). -/
theorem phaseTick_phase_cases {p : Params} {l : Bool} {b c : Block} (h : phaseTick b.phase p l b = .next c) :
    (b.phase = .idle ∧ c.phase = .idle) ∨ (b.phase = .req ∧ (c.phase = .req ∨ c.phase = .cap)) ∨
      (b.phase = .dec ∧ c = decTick b) ∨ (b.phase = .cap ∧ KeepsPhaseOrEnds p b c) := by
  obtain ⟨hidle, rfl⟩ | ⟨hreq, rfl⟩ | hdec | ⟨hcap, -, rfl⟩ | ⟨hcap, -, rfl⟩ | ⟨hcap, -, -, rfl⟩ |
    ⟨hcap, -, -, -, rfl⟩ := phaseTick_next h
  · exact .inl ⟨hidle, hidle⟩
  · exact .inr (.inl ⟨hreq, reqTick_phase hreq⟩)
  · exact .inr (.inr (.inl hdec))
  · exact .inr (.inr (.inr ⟨hcap, waitLowTick_keepsPhaseOrEnds p l b⟩))
  · exact .inr (.inr (.inr ⟨hcap, waitHighTick_keepsPhaseOrEnds p l b⟩))
  · exact .inr (.inr (.inr ⟨hcap, .inl rfl⟩))
  · exact .inr (.inr (.inr ⟨hcap, .inl rfl⟩))

/-! ### The slots through the step rules -/

theorem raiseTimeout_raw (p : Params) (b : Block) : (raiseTimeout p b).raw = b.raw := by
  unfold raiseTimeout; split <;> rfl

theorem reqTick_raw (p : Params) (b : Block) : (reqTick p b).raw = b.raw := by
  unfold reqTick; split <;> rfl

theorem countOrTimeout_raw (p : Params) (b : Block) : (countOrTimeout p b).raw = b.raw := by
  unfold countOrTimeout
  split
  · exact raiseTimeout_raw p b
  · rfl

theorem waitLowTick_raw (p : Params) (l : Bool) (b : Block) : (waitLowTick p l b).raw = b.raw := by
  cases l with
  | false => rfl
  | true => exact countOrTimeout_raw p b

theorem waitHighTick_raw (p : Params) (l : Bool) (b : Block) : (waitHighTick p l b).raw = b.raw := by
  cases l with
  | true => rw [waitHighTick_high]; split <;> rfl
  | false =>
    cases hh : p.hardened with
    | true => rw [waitHighTick_low_hardened hh, countOrTimeout_raw]
    | false => rw [waitHighTick_low_legacy hh]

/-- The only step rule that writes a slot is the sample (R16, R81). -/
theorem phaseTick_raw_cases {p : Params} {l : Bool} {b c : Block} (h : phaseTick b.phase p l b = .next c) :
    c.raw = b.raw ∨ (b.phase = .cap ∧ b.sub = .delay ∧ b.timer = p.tSample ∧ c = b.sampled l) := by
  obtain ⟨-, rfl⟩ | ⟨-, rfl⟩ | ⟨-, rfl⟩ | ⟨-, -, rfl⟩ | ⟨-, -, rfl⟩ | ⟨-, -, -, rfl⟩ | ⟨hcap, hsub, ht, hlt, rfl⟩ :=
    phaseTick_next h
  · exact .inl rfl
  · exact .inl (reqTick_raw p b)
  · exact .inl rfl
  · exact .inl (waitLowTick_raw p l b)
  · exact .inl (waitHighTick_raw p l b)
  · exact .inl rfl
  · exact .inr ⟨hcap, hsub, ht, by rw [set_eq_setIfInBounds]; rfl⟩

theorem slotsBinary_of_raw_eq {b c : Block} (hraw : c.raw = b.raw) (h : b.slotsBinary = true) :
    c.slotsBinary = true := by
  rwa [Block.slotsBinary, hraw]

theorem BlockStep.slotsBinary {h : HostPort} {p : Params} {l : Bool} {b c : Block} (hstep : BlockStep h p l b c)
    (hb : b.slotsBinary = true) : c.slotsBinary = true := by
  cases hstep with
  | reset _ => exact reset_slotsBinary
  | accept _ _ _ => exact acceptPoll_slotsBinary b
  | rule _ hrule =>
    obtain hraw | ⟨-, -, -, rfl⟩ := phaseTick_raw_cases hrule
    · exact slotsBinary_of_raw_eq hraw hb
    · exact sampled_slotsBinary hb l

/-- A slot that the sample changes is the slot `bit_idx`, which takes the level of the line (R81). -/
theorem sampled_getElem_of_ne {b : Block} {l : Bool} {j : Nat} (hj : j < 33)
    (hne : (b.sampled l).raw[j] ≠ b.raw[j]) :
    j = b.bitIdx ∧ (b.sampled l).raw[j] = if l then 0x01#8 else 0x00#8 := by
  simp only [Block.sampled, Vector.getElem_setIfInBounds] at hne ⊢
  by_cases he : b.bitIdx = j
  · exact ⟨he.symm, if_pos he⟩
  · exact absurd (if_neg he) hne

/-! ### The parameters -/

theorem runTicks_params {n : Nat} {s t : State} (h : runTicks n s = .next t) : t.params = s.params :=
  runTicks_of_step (P := fun u => u.params = s.params) (fun hu hstep => (step_params hstep).trans hu) rfl h

end Sys2Proof.Machine

namespace Sys2Proof.Proofs.Changes

open Sys2Proof Sys2Proof.Machine

/-- Settles O41: a tick keeps `result`, or it is the reset, the decode or a Timeout with `HARDENED = 1`. -/
theorem resultIsWrittenAtPollEndOnly : Obligations.ResultIsWrittenAtPollEndOnly := by
  intro s t h hne
  obtain hsame | ⟨hr, hblk⟩ | ⟨hr, hdec, hblk⟩ | ⟨hr, hcap, hh, hblk⟩ := step_result_cases h
  · exact absurd hsame hne
  · exact .inl ⟨hr, by rw [hblk]; rfl⟩
  · exact .inr (.inl ⟨hr, hdec, by rw [hblk, decTick_phase], by rw [hblk, decTick_result]⟩)
  · exact .inr (.inr ⟨hr, hcap, by rw [hblk], by rw [hblk], hh⟩)

/-- Settles O42: of the busy phases REQ does not lead to IDLE, DEC does by the decode, and CAP does by a Timeout
alone. -/
theorem pollEndsBySuccessOrTimeout : Obligations.PollEndsBySuccessOrTimeout := by
  intro s t h hr hbusy hend
  obtain ⟨c, hstep, rfl⟩ := step_iff_blockStep.1 h
  rw [State.busy_iff] at hbusy
  rw [State.not_busy_iff, State_after_blk] at hend
  rw [State_after_blk]
  cases hstep with
  | reset hrst => simp [hr] at hrst
  | accept _ _ hidle => exact absurd hidle hbusy
  | rule _ hrule =>
    obtain ⟨hidle, -⟩ | ⟨-, hreq | hcap⟩ | hdec | ⟨hcap, hkeep | hdec | ⟨hh, hblk⟩⟩ := phaseTick_phase_cases hrule
    · exact absurd hidle hbusy
    · simp [hend] at hreq
    · simp [hend] at hcap
    · exact .inl hdec
    · exact absurd (hkeep.symm.trans hend) hbusy
    · simp [hend] at hdec
    · exact .inr ⟨hcap, hh, hblk⟩

/-- Settles O43: the accept leads from IDLE to REQ, and the step rule of each phase stays or leads to the next. -/
theorem phaseTransitionsAreLinear : Obligations.PhaseTransitionsAreLinear := by
  intro s t h hr
  obtain ⟨c, hstep, rfl⟩ := step_iff_blockStep.1 h
  rw [State_after_blk]
  cases hstep with
  | reset hrst => simp [hr] at hrst
  | accept _ hpoll hidle => exact .inr (.inl ⟨hidle, acceptPoll_phase s.blk, hpoll⟩)
  | rule _ hrule =>
    obtain ⟨hidle, hc⟩ | ⟨hreq, hc | hc⟩ | ⟨hdec, rfl⟩ | ⟨hcap, hkeep | hc | ⟨hh, rfl⟩⟩ := phaseTick_phase_cases hrule
    · exact .inl ⟨hc.trans hidle.symm, by simp [hidle]⟩
    · exact .inl ⟨hc.trans hreq.symm, by simp [hreq]⟩
    · exact .inr (.inr (.inl ⟨hreq, hc⟩))
    · exact .inr (.inr (.inr (.inr (.inl ⟨hdec, decTick_phase s.blk⟩))))
    · exact .inl ⟨hkeep, by simp [hcap]⟩
    · exact .inr (.inr (.inr (.inl ⟨hcap, hc⟩)))
    · exact .inr (.inr (.inr (.inr (.inr ⟨hcap, rfl, rfl, hh⟩))))

/-- Settles O44: reset and the accept clear every slot, and of the step rules the sample alone writes one, with the
level of the line. -/
theorem slotsHoldZeroOrOne : Obligations.SlotsHoldZeroOrOne := by
  refine ⟨reset_slotsBinary, fun s t hs h => (blockStep_of_step h).slotsBinary hs, fun s t j hj h hne => ?_⟩
  obtain ⟨c, hstep, rfl⟩ := step_iff_blockStep.1 h
  cases hstep with
  | reset hrst => exact .inl ⟨hrst, Vector.getElem_replicate hj⟩
  | accept _ hpoll hidle => exact .inr (.inl ⟨hidle, hpoll, Vector.getElem_replicate hj⟩)
  | rule _ hrule =>
    obtain hraw | ⟨hcap, hsub, ht, rfl⟩ := phaseTick_raw_cases hrule
    · exact absurd (congrArg (·[j]) hraw) hne
    · exact .inr (.inr ⟨hcap, hsub, ht, sampled_getElem_of_ne hj hne⟩)

/-- Settles O45: every tick keeps the parameters. -/
theorem parametersNeverChange : Obligations.ParametersNeverChange :=
  fun _ _ _ h => runTicks_params h

end Sys2Proof.Proofs.Changes

/-! PROOFS. The statements of what a run may depend on: the length of a tick, the calm host, the queries over a run,
and the hang of `HARDENED = 0`. First the facts they share: what a tick reads, and what a run keeps if its ticks do. -/

namespace Sys2Proof.Machine

/-! ### The length of a tick -/

/-- No step rule reads `TICK_NS` (R6). -/
theorem phaseTick_withTickNs (ph : Phase) (p : Params) (q : Rat) (l : Bool) (b : Block) :
    phaseTick ph { p with tickNs := q } l b = phaseTick ph p l b := by
  cases ph with
  | idle => rfl
  | req => rfl
  | cap => rfl
  | dec => rfl

theorem BlockStep.withTickNs {h : HostPort} {p : Params} {l : Bool} {b c : Block} (hstep : BlockStep h p l b c)
    (q : Rat) : BlockStep h { p with tickNs := q } l b c := by
  cases hstep with
  | reset hrst => exact .reset hrst
  | accept hrst hpoll hidle => exact .accept hrst hpoll hidle
  | rule hcalm hrule => exact .rule hcalm (by rw [phaseTick_withTickNs, hrule])

theorem step_withTickNs {s t : State} (q : Rat) (h : step s = .next t) :
    step (s.withTickNs q) = .next (t.withTickNs q) := by
  obtain ⟨c, hstep, rfl⟩ := step_iff_blockStep.1 h
  exact step_iff_blockStep.2 ⟨c, hstep.withTickNs q, rfl⟩

/-! ### The calm host -/

/-- The two states differ in what the host is yet to present and in the outputs of the tick before, at most. -/
structure SameButHost (s u : State) : Prop where
  params : u.params = s.params
  blk : u.blk = s.blk
  lineQ : u.lineQ = s.lineQ
  tick : u.tick = s.tick

theorem SameButHost.lineIn {s u : State} (h : SameButHost s u) : u.lineIn = s.lineIn := by
  rw [State.lineIn, State.lineIn, h.lineQ, h.tick]

theorem BlockStep.iff_of_calm {h : HostPort} {p : Params} {l : Bool} {b c : Block} (hc : h.calm = true) :
    BlockStep h p l b c ↔ phaseTick b.phase p l b = .next c := by
  refine ⟨fun hstep => ?_, .rule hc⟩
  obtain ⟨hr, hp⟩ := (Machine.calm_iff h).1 hc
  cases hstep with
  | reset hrst => simp [hr] at hrst
  | accept _ hpoll _ => simp [hp] at hpoll
  | rule _ hrule => exact hrule

/-- A calm host does not matter to the next block. -/
theorem SameButHost.step {s u t : State} (h : SameButHost s u) (hs : s.host.calm = true) (hu : u.host.calm = true)
    (hstep : step s = .next t) : ∃ v, Machine.step u = .next v ∧ SameButHost t v := by
  obtain ⟨c, hc, rfl⟩ := step_iff_blockStep.1 hstep
  rw [BlockStep.iff_of_calm hs] at hc
  refine ⟨u.after c, step_of_calm hu (by rw [h.blk, h.params, h.lineIn, hc]), h.params, rfl, ?_, ?_⟩
  · exact congrArg List.tail h.lineQ
  · exact congrArg Nat.succ h.tick

theorem State.calm_of_step {s t : State} (hc : s.calm = true) (h : step s = .next t) : t.calm = true := by
  rw [step_next_eq_after h]
  exact State.calm_after _ hc

theorem SameButHost.run {n : Nat} {s u t : State} (h : SameButHost s u) (hs : s.calm = true) (hu : u.calm = true)
    (hrun : runTicks n s = .next t) : ∃ v, runTicks n u = .next v ∧ SameButHost t v := by
  induction n generalizing s u with
  | zero =>
    cases hrun
    exact ⟨u, rfl, h⟩
  | succ n ih =>
    obtain ⟨s', hs', hrest⟩ := runTicks_succ_next hrun
    obtain ⟨u', hu', h'⟩ := h.step (State.calm_host hs) (State.calm_host hu) hs'
    obtain ⟨v, hv, hsame⟩ := ih h' (State.calm_of_step hs hs') (State.calm_of_step hu hu') hrest
    exact ⟨v, (runTicks_succ n hu').trans hv, hsame⟩

/-! ### What a run keeps if its ticks do -/

/-- What each tick of a run keeps is the same at its end as at its start. -/
theorem runTicks_keeps {α : Type} (f : State → α) {n : Nat} {s t : State} (h : runTicks n s = .next t)
    (hkeep : ∀ k u u', k < n → runTicks k s = .next u → step u = .next u' → f u' = f u) : f t = f s := by
  induction n generalizing s with
  | zero =>
    cases h
    rfl
  | succ n ih =>
    obtain ⟨u, hu, hrun⟩ := runTicks_succ_next h
    have hfirst : f u = f s := hkeep 0 s u (by omega) (runTicks_zero s) hu
    rw [← hfirst]
    exact ih hrun fun k v v' hk hv hv' => hkeep (k + 1) v v' (by omega) ((runTicks_succ k hu).trans hv) hv'

/-- A tick without reset in which no poll ends keeps `result` (R32). -/
theorem step_result_of_no_end {s t : State} (h : step s = .next t) (hr : s.host.rst = false)
    (hend : ¬(s.busy = true ∧ t.busy = false)) : t.blk.result = s.blk.result := by
  rw [State.busy_iff, State.not_busy_iff] at hend
  obtain hsame | ⟨hrst, -⟩ | ⟨-, hdec, hblk⟩ | ⟨-, hcap, -, hblk⟩ := step_result_cases h
  · exact hsame
  · simp [hr] at hrst
  · exact absurd ⟨by simp [hdec], by rw [hblk, decTick_phase]⟩ hend
  · exact absurd ⟨by simp [hcap], by rw [hblk]⟩ hend

/-! ### The hang -/

/-- With `HARDENED = 0` and a low line in WAIT_HIGH no tick but the reset changes the block (R84). -/
theorem BlockStep.eq_of_hung {h : HostPort} {p : Params} {b c : Block} (hstep : BlockStep h p false b c)
    (hr : h.rst = false) (hleg : p.hardened = false) (hcap : b.phase = .cap) (hsub : b.sub = .waitHigh) : c = b := by
  cases hstep with
  | reset hrst => simp [hr] at hrst
  | accept _ _ hidle => simp [hcap] at hidle
  | rule _ hrule =>
    rw [phaseTick_of_waitHigh hcap hsub, waitHighTick_low_legacy hleg] at hrule
    cases hrule
    rfl

/-- The line of a later tick of the run. -/
theorem runTicks_lineAt {n : Nat} {s t : State} (h : runTicks n s = .next t) (j : Nat) :
    t.lineAt j = s.lineAt (n + j) := by
  induction n generalizing s with
  | zero =>
    cases h
    rw [Nat.zero_add]
  | succ n ih =>
    obtain ⟨u, hu, hrun⟩ := runTicks_succ_next h
    rw [ih hrun, step_next_eq_after hu, after_lineAt, Nat.add_right_comm]

theorem State.host_rst_of_take {s : State} {n : Nat} (h : ∀ p ∈ s.hostQ.take (n + 1), p.rst = false) :
    s.host.rst = false := by
  rw [State.host]
  cases hq : s.hostQ with
  | nil => rfl
  | cons p q => exact h p (by simp [hq])

theorem rst_of_take_tail {q : List HostPort} {n : Nat} (h : ∀ p ∈ q.take (n + 1), p.rst = false) :
    ∀ p ∈ q.tail.take n, p.rst = false := by
  cases q with
  | nil => simp
  | cons p q => exact fun x hx => h x (by simp only [List.take_succ_cons]; exact List.mem_cons_of_mem p hx)

/-- The hang lasts for as long as the line is low and there is no reset. -/
theorem runTicks_blk_of_hung {n : Nat} {s t : State} (hleg : s.params.hardened = false) (hcap : s.blk.phase = .cap)
    (hsub : s.blk.sub = .waitHigh) (hline : ∀ k, k < n → s.lineAt k = false)
    (hrst : ∀ p ∈ s.hostQ.take n, p.rst = false) (h : runTicks n s = .next t) : t.blk = s.blk := by
  induction n generalizing s with
  | zero =>
    cases h
    rfl
  | succ n ih =>
    obtain ⟨u, hu, hrun⟩ := runTicks_succ_next h
    obtain ⟨c, hstep, rfl⟩ := step_iff_blockStep.1 hu
    rw [lineIn_eq_lineAt_zero, hline 0 (by omega)] at hstep
    obtain rfl := hstep.eq_of_hung (State.host_rst_of_take hrst) hleg hcap hsub
    refine ih (s := s.after s.blk) hleg hcap hsub (fun k hk => ?_) (rst_of_take_tail hrst) hrun
    rw [after_lineAt]
    exact hline (k + 1) (by omega)

end Sys2Proof.Machine

namespace Sys2Proof.Proofs.Runs

open Sys2Proof Sys2Proof.Machine

/-- Settles O47: no tick reads the length of a tick or writes it, so a run with another one goes tick by tick with the
first. -/
theorem tickLengthDoesNotMatter : Obligations.TickLengthDoesNotMatter := by
  intro n
  induction n with
  | zero =>
    intro s t q h
    cases h
    rfl
  | succ n ih =>
    intro s t q h
    obtain ⟨u, hu, hrun⟩ := runTicks_succ_next h
    rw [runTicks_succ n (step_withTickNs q hu)]
    exact ih u t q hrun

/-- Settles O48: with a calm host the next block comes from the block, the parameters and the line alone. -/
theorem calmHostDoesNotDisturbThePoll : Obligations.CalmHostDoesNotDisturbThePoll := by
  intro n s t q hs hq hrun
  have hsame : SameButHost s { s with hostQ := q } := ⟨rfl, rfl, rfl, rfl⟩
  obtain ⟨u, hu, hend⟩ := hsame.run hs hq hrun
  exact ⟨u, hu, hend.blk, hend.lineQ, hend.tick⟩

/-- Settles O49: an answer but that of `pollResult()` comes from the snapshot, which only the decode and reset write,
and that of `pollResult()` from `result`, which only reset and the end of a poll write. -/
theorem queriesAreIdempotent : Obligations.QueriesAreIdempotent := by
  refine ⟨fun n s t i hpoll hres h hquiet => ?_, fun n s t h hquiet => ?_⟩
  · have hsnap : t.blk.snap = s.blk.snap := by
      refine runTicks_keeps (fun u => u.blk.snap) h fun k u u' hk hu hstep => ?_
      obtain ⟨hr, hdec⟩ := hquiet k u hk hu
      obtain ⟨-, -, hkept⟩ := StateRecord.snapshotIsWrittenByDecodeAndResetOnly u u' hstep
      exact hkept hr hdec
    refine ⟨_, exec_query_responseOf i s hpoll, ?_⟩
    rw [← responseOf_congr_snap hres hsnap]
    exact exec_query_responseOf i t hpoll
  · have hresult : t.blk.result = s.blk.result := by
      refine runTicks_keeps (fun u => u.blk.result) h fun k u u' hk hu hstep => ?_
      obtain ⟨hr, hend⟩ := hquiet k u u' hk hu hstep
      exact step_result_of_no_end hstep hr hend
    refine ⟨s.blk.result.code.setWidth 8, rfl, ?_⟩
    rw [← hresult]
    rfl

/-- Settles O30: the hung block is the same at the end of the run, and the next tick is the reset, the refusal of a
`poll()` while busy, or the step rule of WAIT_HIGH, which does nothing. -/
theorem legacyHangEndsOnlyByReset : Obligations.LegacyHangEndsOnlyByReset := by
  intro s t n hleg hcap hsub hline hrst hrun
  have hblk : t.blk = s.blk := runTicks_blk_of_hung hleg hcap hsub (fun k hk => hline k hk.le) hrst hrun
  have hlow : t.lineIn = false := by rw [lineIn_eq_lineAt_zero, runTicks_lineAt hrun, Nat.add_zero, hline n le_rfl]
  rw [← runTicks_params hrun] at hleg
  rw [← hblk] at hcap hsub
  have hbusy : t.blk.phase ≠ .idle := by simp [hcap]
  refine ⟨hblk, t.busy_iff.2 hbusy, fun hr => (BlockStep.reset hr).step_eq, fun hr hp => step_of_poll_busy hr hp hbusy,
    fun hr hp => step_of_calm ((calm_iff _).2 ⟨hr, hp⟩) ?_⟩
  rw [phaseTick_of_waitHigh hcap hsub, hlow, waitHighTick_low_legacy hleg]

end Sys2Proof.Proofs.Runs

/-! PROOFS. The statements of whole cells and whole polls but the answered one: the pulse width, the silent controller
and the bound of a poll with `HARDENED = 1`. First the facts they share: runs put together, the start of the capture
of an accepted poll, and the ticks that a busy block has left at most. -/

namespace Sys2Proof.Machine

/-! ### Runs put together -/

theorem AtTick.trans {s t u : State} {m n : Nat} {b c : Block} (h : AtTick s m b t) (h' : AtTick t n c u) :
    AtTick s (m + n) c u where
  run := by rw [runTicks_add m n h.run, h'.run]
  blk := h'.blk
  params := h'.params.trans h.params
  calm := h'.calm
  line j := by rw [h'.line, h.line, Nat.add_assoc]

theorem atTick_of_run {s t : State} {n : Nat} (hrun : runTicks n s = .next t) (hc : t.calm = true) :
    AtTick s n t.blk t :=
  ⟨hrun, rfl, runTicks_params hrun, hc, runTicks_lineAt hrun⟩

/-- A run has a state after each of its ticks. -/
theorem runTicks_split {m n : Nat} {s t : State} (h : runTicks (m + n) s = .next t) :
    ∃ u, runTicks m s = .next u ∧ runTicks n u = .next t := by
  induction m generalizing s with
  | zero => exact ⟨s, rfl, by rwa [Nat.zero_add] at h⟩
  | succ m ih =>
    rw [Nat.add_right_comm] at h
    obtain ⟨v, hv, hrest⟩ := runTicks_succ_next h
    obtain ⟨u, hu, hrun⟩ := ih hrest
    exact ⟨u, (runTicks_succ m hv).trans hu, hrun⟩

/-! ### A poll is busy until it ends -/

/-- With a calm host an idle block stays idle (R70). -/
theorem runTicks_idle {n : Nat} {s t : State} (hc : s.calm = true) (hidle : s.blk.phase = .idle)
    (h : runTicks n s = .next t) : t.blk.phase = .idle := by
  refine (runTicks_of_step (P := fun u => u.calm = true ∧ u.blk.phase = .idle) ?_ ⟨hc, hidle⟩ h).2
  rintro u v ⟨hu, hi⟩ hstep
  refine ⟨State.calm_of_step hu hstep, ?_⟩
  have hrule := (BlockStep.iff_of_calm (State.calm_host hu)).1 (blockStep_of_step hstep)
  rw [hi, phaseTick, Host.Outcome.next.injEq] at hrule
  rw [← hrule, hi]

/-- A run that ends busy was busy in every tick after its first, if the host is calm from then on: an idle block would
have stayed idle. -/
theorem busy_of_busy_end {n : Nat} {s t : State} (hc : s.hostQ.tail.all HostPort.calm = true)
    (h : runTicks n s = .next t) (hbusy : t.busy = true) (k : Nat) (hpos : 1 ≤ k) (hk : k ≤ n) :
    ∃ u, runTicks k s = .next u ∧ u.busy = true := by
  obtain ⟨m, rfl⟩ := Nat.exists_eq_add_of_le hk
  obtain ⟨j, rfl⟩ := Nat.exists_eq_add_of_le' hpos
  obtain ⟨u, hu, hrest⟩ := runTicks_split h
  obtain ⟨v, hv, hrun⟩ := runTicks_succ_next hu
  have hcalm : v.calm = true := by
    rw [step_next_eq_after hv]
    exact hc
  have hcalm' : u.calm = true := runTicks_of_step (P := fun w => w.calm = true) State.calm_of_step hcalm hrun
  refine ⟨u, hu, u.busy_iff.2 fun hidle => ?_⟩
  exact t.busy_iff.1 hbusy (runTicks_idle hcalm' hidle hrest)

/-! ### The start of the capture -/

/-- The block when the capture of an accepted poll begins (R70, R74). -/
def captureStart (p : Params) (b : Block) : Block :=
  { acceptPoll b with phase := .cap, sub := .waitLow, reqPos := nReq p - 1, bitIdx := 0, timer := 0 }

theorem exists_atTick_captureStart {s : State} (hw : s.params.wellFormed = true) (hidle : s.blk.phase = .idle)
    (hp : s.pollsOnce = true) : ∃ t, AtTick s (nReq s.params + 1) (captureStart s.params s.blk) t := by
  obtain ⟨t, hrun, -, hcalm, hblk⟩ := runTicks_capture hw hidle hp
  exact ⟨t, (show t.blk = captureStart s.params s.blk from hblk) ▸ atTick_of_run hrun hcalm⟩

/-- A poll whose first window sees a high line waits in WAIT_LOW through the window, and then raises Timeout (R82). -/
theorem exists_atTick_silence {s : State} (hw : s.params.wellFormed = true) (hidle : s.blk.phase = .idle)
    (hp : s.pollsOnce = true)
    (hline : ∀ k, nReq s.params < k → k ≤ nReq s.params + s.params.tTimeout → s.lineAt k = true) :
    (∃ t, AtTick s (nReq s.params + 1 + (s.params.tTimeout - 1))
      ((captureStart s.params s.blk).withTimer (s.params.tTimeout - 1)) t) ∧
    ∃ t, AtTick s (nReq s.params + 1 + s.params.tTimeout)
      (raiseTimeout s.params ((captureStart s.params s.blk).withTimer (s.params.tTimeout - 1))) t := by
  have hwin := Params.tTimeout_pos hw
  obtain ⟨c, hc⟩ := exists_atTick_captureStart hw hidle hp
  have hhigh : ∀ k, k < c.params.tTimeout → c.lineAt k = true := by
    intro k hk
    rw [hc.params] at hk
    rw [hc.line]
    exact hline _ (by omega) (by omega)
  obtain ⟨hcount, u, hfire⟩ := waitLow_timesOut hc.calm (by rwa [hc.params]) (by rw [hc.blk]; rfl)
    (by rw [hc.blk]; rfl) (by rw [hc.blk]; rfl) hhigh
  obtain ⟨t, hwait⟩ := hcount (s.params.tTimeout - 1) (by rw [hc.params]; omega)
  rw [hc.blk] at hwait hfire
  rw [hc.params] at hfire
  exact ⟨⟨t, hc.trans hwait⟩, u, hc.trans hfire⟩

/-! ### The sample of a cell -/

/-- From a low tick of WAIT_LOW the cell is sampled `T_SAMPLE` ticks later, with the level of the line then, whatever
it does between (R80, R81, R85). -/
theorem exists_atTick_cellSample {s : State} (hw : s.params.wellFormed = true) (hc : s.calm = true)
    (hcap : s.blk.phase = .cap) (hsub : s.blk.sub = .waitLow) (hidx : s.blk.bitIdx ≤ 32) (hlow : s.lineAt 0 = false) :
    ∃ t, AtTick s (s.params.tSample + 1) (s.blk.sampled (s.lineAt s.params.tSample)) t := by
  have hlast : s.params.tSample - 1 + 1 = s.params.tSample := Nat.sub_add_cancel (Params.tSample_pos hw)
  have hstart := (atTick_zero hc).next (c := { s.blk with sub := .delay, timer := 1 })
    (by rw [phaseTick_of_waitLow hcap hsub, hlow, waitLowTick_low])
  obtain ⟨t, ht⟩ := exists_atTick_sample hstart.calm hcap rfl hidx (Params.tSample_pos hw)
  have hall := hstart.trans ht
  simp only [State_after_blk, State_after_params, after_lineAt, hlast] at hall
  exact ⟨t, by rwa [Nat.zero_add, Nat.add_comm] at hall⟩

/-! ### The ticks a busy block has left -/

/-- The most ticks the capture has left with `HARDENED = 1`: what the sub-phase leaves of its cell, and the cells not
yet begun. -/
def Block.captureTicksLeft (p : Params) (b : Block) : Nat :=
  match b.sub with
  | .waitLow => (p.tTimeout - b.timer) + p.tSample + p.tTimeout + (32 - b.bitIdx) * cellBound p
  | .delay => (p.tSample + 1 - b.timer) + p.tTimeout + (32 - b.bitIdx) * cellBound p
  | .waitHigh => (p.tTimeout - b.timer) + (33 - b.bitIdx) * cellBound p

/-- The most ticks the poll has left with `HARDENED = 1` (R151). -/
def Block.ticksLeft (p : Params) (b : Block) : Nat :=
  match b.phase with
  | .idle => 0
  | .req => (nReq p - b.reqPos) + 33 * cellBound p + 1
  | .cap => b.captureTicksLeft p + 1
  | .dec => 1

theorem Block.ticksLeft_idle {p : Params} {b : Block} (h : b.phase = .idle) : b.ticksLeft p = 0 := by
  simp [Block.ticksLeft, h]

theorem Block.ticksLeft_req {p : Params} {b : Block} (h : b.phase = .req) :
    b.ticksLeft p = (nReq p - b.reqPos) + 33 * cellBound p + 1 := by
  simp [Block.ticksLeft, h]

theorem Block.ticksLeft_dec {p : Params} {b : Block} (h : b.phase = .dec) : b.ticksLeft p = 1 := by
  simp [Block.ticksLeft, h]

theorem Block.ticksLeft_waitLow {p : Params} {b : Block} (hcap : b.phase = .cap) (hsub : b.sub = .waitLow) :
    b.ticksLeft p = (p.tTimeout - b.timer) + p.tSample + p.tTimeout + (32 - b.bitIdx) * cellBound p + 1 := by
  simp [Block.ticksLeft, Block.captureTicksLeft, hcap, hsub]

theorem Block.ticksLeft_delay {p : Params} {b : Block} (hcap : b.phase = .cap) (hsub : b.sub = .delay) :
    b.ticksLeft p = (p.tSample + 1 - b.timer) + p.tTimeout + (32 - b.bitIdx) * cellBound p + 1 := by
  simp [Block.ticksLeft, Block.captureTicksLeft, hcap, hsub]

theorem Block.ticksLeft_waitHigh {p : Params} {b : Block} (hcap : b.phase = .cap) (hsub : b.sub = .waitHigh) :
    b.ticksLeft p = (p.tTimeout - b.timer) + (33 - b.bitIdx) * cellBound p + 1 := by
  simp [Block.ticksLeft, Block.captureTicksLeft, hcap, hsub]

theorem reqTick_ticksLeft {p : Params} {b : Block} (h : b.Inv p) (hreq : b.phase = .req) :
    (reqTick p b).ticksLeft p < b.ticksLeft p := by
  have hpos := h.reqPos
  rw [Block.ticksLeft_req hreq]
  by_cases hlast : b.reqPos + 1 = nReq p
  · rw [reqTick_of_last hlast, Block.ticksLeft_waitLow rfl rfl]
    simp only [cellBound]
    omega
  · rw [reqTick_of_lt (by omega), Block.ticksLeft_req (b := { b with reqPos := b.reqPos + 1 }) hreq]
    dsimp only
    omega

/-- With `HARDENED = 1` a Timeout ends the poll. -/
theorem raiseTimeout_ticksLeft {p : Params} (hh : p.hardened = true) (b : Block) :
    (raiseTimeout p b).ticksLeft p = 0 := by
  rw [raiseTimeout_hardened hh]
  exact Block.ticksLeft_idle rfl

theorem waitLowTick_ticksLeft {p : Params} {b : Block} (hh : p.hardened = true) (h : b.Inv p) (hcap : b.phase = .cap)
    (hsub : b.sub = .waitLow) (l : Bool) : (waitLowTick p l b).ticksLeft p < b.ticksLeft p := by
  obtain ⟨-, hlt⟩ := h.waitLowCounters hcap hsub
  rw [Block.ticksLeft_waitLow hcap hsub]
  cases l with
  | false =>
    rw [waitLowTick_low, Block.ticksLeft_delay (b := { b with sub := .delay, timer := 1 }) hcap rfl]
    dsimp only
    omega
  | true =>
    rw [waitLowTick_high]
    by_cases ht : b.timer + 1 = p.tTimeout
    · rw [countOrTimeout_of_eq ht, raiseTimeout_ticksLeft hh]
      omega
    · rw [countOrTimeout_of_ne ht, Block.ticksLeft_waitLow (b := { b with timer := b.timer + 1 }) hcap hsub]
      dsimp only
      omega

theorem delayCount_ticksLeft {p : Params} {b : Block} (h : b.Inv p) (hcap : b.phase = .cap) (hsub : b.sub = .delay) :
    ({ b with timer := b.timer + 1 } : Block).ticksLeft p < b.ticksLeft p := by
  obtain ⟨-, -, hle⟩ := h.delayCounters hcap hsub
  rw [Block.ticksLeft_delay hcap hsub, Block.ticksLeft_delay (b := { b with timer := b.timer + 1 }) hcap hsub]
  dsimp only
  omega

theorem sampled_ticksLeft {p : Params} {b : Block} (hcap : b.phase = .cap) (hsub : b.sub = .delay)
    (ht : b.timer = p.tSample) (l : Bool) : (b.sampled l).ticksLeft p < b.ticksLeft p := by
  rw [Block.ticksLeft_delay hcap hsub, Block.ticksLeft_waitHigh (b := b.sampled l) hcap rfl]
  simp only [Block.sampled, Nat.reduceSubDiff]
  omega

theorem waitHighTick_ticksLeft {p : Params} {b : Block} (hh : p.hardened = true) (h : b.Inv p) (hcap : b.phase = .cap)
    (hsub : b.sub = .waitHigh) (l : Bool) : (waitHighTick p l b).ticksLeft p < b.ticksLeft p := by
  obtain ⟨-, hlt⟩ := h.waitHighCounters hcap hsub
  have hidx := h.bitIdx
  rw [Block.ticksLeft_waitHigh hcap hsub]
  cases l with
  | true =>
    rw [waitHighTick_high]
    by_cases hstop : b.bitIdx = 33
    · rw [if_pos hstop, Block.ticksLeft_dec rfl]
      omega
    · have hcells : (33 - b.bitIdx) * cellBound p = (32 - b.bitIdx) * cellBound p + cellBound p := by
        rw [show 33 - b.bitIdx = 32 - b.bitIdx + 1 by omega, Nat.succ_mul]
      rw [if_neg hstop, Block.ticksLeft_waitLow (b := { b with sub := .waitLow, timer := 0 }) hcap rfl, hcells]
      simp only [cellBound]
      omega
  | false =>
    rw [waitHighTick_low_hardened hh]
    by_cases ht : b.timer + 1 = p.tTimeout
    · rw [countOrTimeout_of_eq ht, raiseTimeout_ticksLeft hh]
      omega
    · rw [countOrTimeout_of_ne ht, Block.ticksLeft_waitHigh (b := { b with timer := b.timer + 1 }) hcap hsub]
      dsimp only
      omega

/-- With `HARDENED = 1` every tick of a busy block uses up one of the ticks it has left. -/
theorem phaseTick_ticksLeft {p : Params} {l : Bool} {b c : Block} (hh : p.hardened = true) (h : b.Inv p)
    (hbusy : b.phase ≠ .idle) (hrule : phaseTick b.phase p l b = .next c) : c.ticksLeft p < b.ticksLeft p := by
  obtain ⟨hidle, -⟩ | ⟨hreq, rfl⟩ | ⟨hdec, rfl⟩ | ⟨hcap, hsub, rfl⟩ | ⟨hcap, hsub, rfl⟩ | ⟨hcap, hsub, -, rfl⟩ |
    ⟨hcap, hsub, ht, hlt, rfl⟩ := phaseTick_next hrule
  · exact absurd hidle hbusy
  · exact reqTick_ticksLeft h hreq
  · rw [Block.ticksLeft_dec hdec, Block.ticksLeft_idle (decTick_phase b)]
    exact Nat.one_pos
  · exact waitLowTick_ticksLeft hh h hcap hsub l
  · exact waitHighTick_ticksLeft hh h hcap hsub l
  · exact delayCount_ticksLeft h hcap hsub
  · rw [set_eq_setIfInBounds]
    exact sampled_ticksLeft hcap hsub ht l

/-- No busy block has more ticks left than the bound of a whole poll (R151). -/
theorem ticksLeft_le_pollBound {p : Params} {b : Block} (h : b.Inv p) : b.ticksLeft p ≤ pollBound p := by
  have hcells : ∀ n, n ≤ 32 → n * cellBound p ≤ 32 * cellBound p := fun n hn => Nat.mul_le_mul_right _ hn
  have hone : cellBound p = 2 * p.tTimeout + p.tSample := rfl
  simp only [pollBound]
  cases hp : b.phase with
  | idle => rw [Block.ticksLeft_idle hp]; omega
  | req => rw [Block.ticksLeft_req hp]; omega
  | dec => rw [Block.ticksLeft_dec hp]; omega
  | cap =>
    cases hs : b.sub with
    | waitLow =>
      have hrest := hcells (32 - b.bitIdx) (by omega)
      rw [Block.ticksLeft_waitLow hp hs]
      omega
    | delay =>
      obtain ⟨-, hpos, -⟩ := h.delayCounters hp hs
      have hrest := hcells (32 - b.bitIdx) (by omega)
      rw [Block.ticksLeft_delay hp hs]
      omega
    | waitHigh =>
      obtain ⟨hpos, -⟩ := h.waitHighCounters hp hs
      have hrest := hcells (33 - b.bitIdx) (by omega)
      rw [Block.ticksLeft_waitHigh hp hs]
      omega

/-- From a state of the invariant a tick of a calm host has a next state. -/
theorem exists_phaseTick_next {s : State} (hinv : s.inv = true) (hc : s.host.calm = true) :
    ∃ c, phaseTick s.blk.phase s.params s.lineIn s.blk = .next c := by
  cases hrule : phaseTick s.blk.phase s.params s.lineIn s.blk with
  | next c => exact ⟨c, rfl⟩
  | fault f => exact absurd (step_of_calm_fault hc hrule) (Proofs.Invariant.invariantStatesDoNotFault s f hinv)
  | refused r => exact absurd hrule (phaseTick_ne_refused _ _ _ _ r)

/-- With `HARDENED = 1` and a calm host every tick from a busy state of the invariant uses up one of the ticks left. -/
theorem exists_step_ticksLeft_lt {s : State} (hinv : s.inv = true) (hh : s.params.hardened = true)
    (hc : s.host.calm = true) (hbusy : s.blk.phase ≠ .idle) :
    ∃ c, step s = .next (s.after c) ∧ c.ticksLeft s.params < s.blk.ticksLeft s.params := by
  obtain ⟨c, hrule⟩ := exists_phaseTick_next hinv hc
  exact ⟨c, step_of_calm hc hrule, phaseTick_ticksLeft hh (s.inv_iff_block.1 hinv).2 hbusy hrule⟩

/-- A block with `m` ticks left at most is idle after a run of at most `m` ticks. -/
theorem exists_idle_of_ticksLeft {m : Nat} {s : State} (hinv : s.inv = true) (hh : s.params.hardened = true)
    (hc : s.calm = true) (hm : s.blk.ticksLeft s.params ≤ m) :
    ∃ n t, n ≤ m ∧ runTicks n s = .next t ∧ t.busy = false := by
  induction m generalizing s with
  | zero =>
    refine ⟨0, s, le_rfl, rfl, s.not_busy_iff.2 (by_contra fun hbusy => ?_)⟩
    obtain ⟨c, -, hlt⟩ := exists_step_ticksLeft_lt hinv hh (State.calm_host hc) hbusy
    omega
  | succ m ih =>
    by_cases hidle : s.blk.phase = .idle
    · exact ⟨0, s, Nat.zero_le _, rfl, s.not_busy_iff.2 hidle⟩
    · obtain ⟨c, hstep, hlt⟩ := exists_step_ticksLeft_lt hinv hh (State.calm_host hc) hidle
      have hinv' : (s.after c).inv = true := Proofs.Invariant.stepKeepsTheInvariant s _ hinv hstep
      obtain ⟨n, t, hn, hrun, hend⟩ := ih hinv' hh (State.calm_after c hc) (Nat.le_of_lt_succ (hlt.trans_le hm))
      exact ⟨n + 1, t, Nat.succ_le_succ hn, (runTicks_succ n hstep).trans hrun, hend⟩

end Sys2Proof.Machine

namespace Sys2Proof.Proofs.WholePolls

open Sys2Proof Sys2Proof.Machine

/-- Settles O31: the sample is the level of the line `T_SAMPLE` ticks after the low tick that starts the cell, and the
pulse is over by then if and only if it has at most `T_SAMPLE` ticks. -/
theorem pulseWidthDecidesTheBit : Obligations.PulseWidthDecidesTheBit := by
  intro s W hw hc hcap hsub hidx hpos hlow hhigh
  obtain ⟨t, ht⟩ := exists_atTick_cellSample hw hc hcap hsub hidx (hlow 0 hpos)
  refine ⟨t, ht.run, ?_⟩
  rw [ht.blk]
  by_cases hW : W ≤ s.params.tSample
  · rw [if_pos hW, hhigh _ hW le_rfl]
    rfl
  · rw [if_neg hW, hlow _ (by omega)]
    rfl

/-- Settles O32: the request leads to WAIT_LOW, whose whole window sees a high line and raises Timeout; with
`HARDENED = 1` that ends the poll, and with `HARDENED = 0` the decode of the clear slots does, one tick later. -/
theorem silentControllerEndsThePoll : Obligations.SilentControllerEndsThePoll := by
  intro s hw hidle hp hline n
  have hwin := Params.tTimeout_pos hw
  obtain ⟨-, -, hcalm⟩ := s.pollsOnce_iff.1 hp
  obtain ⟨⟨u, hwait⟩, t, hend⟩ := exists_atTick_silence hw hidle hp hline
  cases hh : s.params.hardened with
  | true =>
    have hn : n = nReq s.params + 1 + (s.params.tTimeout - 1) := by simp only [n, hh, if_true]; omega
    have hn' : n + 1 = nReq s.params + 1 + s.params.tTimeout := by omega
    rw [raiseTimeout_hardened hh, ← hn'] at hend
    rw [← hn] at hwait
    refine ⟨busy_of_busy_end hcalm hwait.run ?_, t, hend.run, ?_⟩
    · simp [State.busy_iff, hwait.blk, captureStart]
    · rw [hend.blk, ← hidle]
      rfl
  | false =>
    have hn : n = nReq s.params + 1 + s.params.tTimeout := by
      simp only [n, hh, Bool.false_eq_true, if_false]
      omega
    rw [raiseTimeout_legacy hh, ← hn] at hend
    have hdec := hend.next rfl
    have hclear : packSnapshot (Vector.replicate 33 0x00#8) = ⟨0x00#8, 0x00#8, 0x00#8, 0x00#8⟩ := by decide
    refine ⟨busy_of_busy_end hcalm hend.run ?_, _, hdec.run, ?_⟩
    · simp [State.busy_iff, hend.blk]
    · rw [hdec.blk, decTick, ← hclear, ← hidle]
      rfl

/-- Settles O54: every tick of a busy block uses up one of the ticks it has left, and no block has more left than the
bound of R151. -/
theorem hardenedPollEndsWithinTheBound : Obligations.HardenedPollEndsWithinTheBound :=
  fun s hinv hh hc _ => exists_idle_of_ticksLeft hinv hh hc (ticksLeft_le_pollBound (s.inv_iff_block.1 hinv).2)

end Sys2Proof.Proofs.WholePolls

/-! PROOFS. The statement of a whole poll answered by a well-timed frame. First the facts it needs: the levels that a
waveform puts on the line, the two waits that end in time, one cell from its start to the start of the next, and what
the slots hold after the first cells. -/

namespace Sys2Proof.Machine

/-! ### The waveform on the line -/

theorem lineAt_of_lineQ {s : State} {pre mid post : List Bool} (h : s.lineQ = pre ++ (mid ++ post)) {j : Nat}
    (hj : j < mid.length) : s.lineAt (pre.length + j) = mid[j] := by
  rw [State.lineAt, h, List.getD_append_right _ _ _ _ (Nat.le_add_right _ _), Nat.add_sub_cancel_left,
    List.getD_append _ _ _ _ hj, List.getD_eq_getElem _ _ hj]

/-- The line shows the cell `c` from `k` ticks after `s` on. -/
structure ShowsCell (s : State) (k : Nat) (c : CellWave) : Prop where
  low : ∀ j, j < c.low → s.lineAt (k + j) = false
  high : ∀ j, c.low ≤ j → j < c.low + c.high → s.lineAt (k + j) = true

/-- The ticks of a row of cells. -/
def cellsTicks (cells : List CellWave) : Nat := (cells.map fun c => c.low + c.high).sum

theorem levels_length (c : CellWave) : c.levels.length = c.low + c.high := by simp [CellWave.levels]

theorem flatMap_levels_length (cells : List CellWave) : (cells.flatMap CellWave.levels).length = cellsTicks cells := by
  simp [List.length_flatMap, levels_length, cellsTicks]

theorem cellsTicks_take_succ {cells : List CellWave} {n : Nat} {c : CellWave} (h : cells[n]? = some c) :
    cellsTicks (cells.take (n + 1)) = cellsTicks (cells.take n) + (c.low + c.high) := by
  rw [cellsTicks, List.take_add_one, h, List.map_append, List.sum_append]
  rfl

theorem showsCell_of_lineQ {s : State} {pre post : List Bool} {c : CellWave}
    (h : s.lineQ = pre ++ (c.levels ++ post)) : ShowsCell s pre.length c := by
  refine ⟨fun j hj => ?_, fun j hle hj => ?_⟩
  · rw [lineAt_of_lineQ h (by rw [levels_length]; omega)]
    simp [CellWave.levels, hj]
  · rw [lineAt_of_lineQ h (by rw [levels_length]; omega)]
    simp [CellWave.levels, List.getElem_append, Nat.not_lt.2 hle]

/-- In a response cell `i` begins after the gap and the cells before it. -/
theorem showsCell_of_frameLevels {s : State} {before rest : List Bool} {gap i : Nat} {cells : List CellWave}
    {c : CellWave} (h : s.lineQ = before ++ (frameLevels gap cells ++ rest)) (hc : cells[i]? = some c) :
    ShowsCell s (before.length + (gap + cellsTicks (cells.take i))) c := by
  obtain ⟨hi, rfl⟩ := List.getElem?_eq_some_iff.1 hc
  have hsplit : cells.flatMap CellWave.levels = (cells.take i).flatMap CellWave.levels ++
      (cells[i].levels ++ (cells.drop (i + 1)).flatMap CellWave.levels) := by
    rw [← List.flatMap_cons, ← List.drop_eq_getElem_cons hi, ← List.flatMap_append, List.take_append_drop]
  have hpre : (before ++ (List.replicate gap true ++ (cells.take i).flatMap CellWave.levels)).length =
      before.length + (gap + cellsTicks (cells.take i)) := by
    rw [List.length_append, List.length_append, List.length_replicate, flatMap_levels_length]
  rw [← hpre]
  refine showsCell_of_lineQ (post := (cells.drop (i + 1)).flatMap CellWave.levels ++ rest) ?_
  rw [h, frameLevels, hsplit]
  simp only [List.append_assoc]

/-- A response begins with its gap, in which the line is high. -/
theorem lineAt_gap {s : State} {before rest : List Bool} {gap : Nat} {cells : List CellWave}
    (h : s.lineQ = before ++ (frameLevels gap cells ++ rest)) {k : Nat} (hk : k < gap) :
    s.lineAt (before.length + k) = true := by
  rw [frameLevels, List.append_assoc] at h
  rw [lineAt_of_lineQ h (by rwa [List.length_replicate]), List.getElem_replicate]

/-- The line as a later state of the run sees it. -/
theorem AtTick.showsCell {s t : State} {k m : Nat} {b : Block} {c : CellWave} (h : AtTick s k b t)
    (hcell : ShowsCell s (k + m) c) : ShowsCell t m c where
  low j hj := by rw [h.line, ← Nat.add_assoc]; exact hcell.low j hj
  high j hle hj := by rw [h.line, ← Nat.add_assoc]; exact hcell.high j hle hj

/-! ### The waits that end in time -/

/-- A high line shorter than the window is counted in WAIT_LOW (R80). -/
theorem exists_atTick_gap {s : State} {n : Nat} (hc : s.calm = true) (hcap : s.blk.phase = .cap)
    (hsub : s.blk.sub = .waitLow) (hzero : s.blk.timer = 0) (hn : n < s.params.tTimeout)
    (hline : ∀ k, k < n → s.lineAt k = true) : ∃ t, AtTick s n (s.blk.withTimer n) t := by
  refine exists_atTick hc (hzero ▸ s.blk.withTimer_self) (fun k hk => ?_) n le_rfl
  rw [phaseTick_of_waitLow (b := s.blk.withTimer k) hcap hsub, hline k hk, waitLowTick_high,
    countOrTimeout_of_ne (by rw [Block.withTimer_timer]; omega)]
  rfl

/-- A low line shorter than the window is waited out in WAIT_HIGH, counted with `HARDENED = 1` and not with
`HARDENED = 0` (R83, R84). -/
theorem exists_atTick_lateEnd {s : State} {n : Nat} (hc : s.calm = true) (hcap : s.blk.phase = .cap)
    (hsub : s.blk.sub = .waitHigh) (hzero : s.blk.timer = 0) (hn : n < s.params.tTimeout)
    (hline : ∀ k, k < n → s.lineAt k = false) : ∃ m t, AtTick s n (s.blk.withTimer m) t := by
  cases hh : s.params.hardened with
  | false =>
    obtain ⟨t, ht⟩ := exists_atTick_waitHigh_legacy hc hh hcap hsub hline
    exact ⟨s.blk.timer, t, ht⟩
  | true =>
    refine ⟨n, exists_atTick hc (hzero ▸ s.blk.withTimer_self) (fun k hk => ?_) n le_rfl⟩
    rw [phaseTick_of_waitHigh (b := s.blk.withTimer k) hcap hsub, hline k hk, waitHighTick_low_hardened hh,
      countOrTimeout_of_ne (by rw [Block.withTimer_timer]; omega)]
    rfl

/-! ### One cell -/

theorem CellWave.wellTimed_iff {p : Params} {c : CellWave} :
    c.wellTimed p = true ↔ 1 ≤ c.low ∧ c.low ≤ p.tSample + p.tTimeout ∧ c.seenHigh p < c.low + c.high := by
  simp [CellWave.wellTimed, and_assoc]

/-- The line at the sample of a well-timed cell is the cell's bit (R86). -/
theorem ShowsCell.lineAt_sample {s : State} {c : CellWave} (h : ShowsCell s 0 c)
    (ht : c.wellTimed s.params = true) : s.lineAt s.params.tSample = c.bit s.params := by
  obtain ⟨-, -, hend⟩ := CellWave.wellTimed_iff.1 ht
  by_cases hbit : c.low ≤ s.params.tSample
  · have hin : s.params.tSample < c.low + c.high := by simp only [CellWave.seenHigh] at hend; omega
    have hhigh := h.high _ hbit hin
    rw [Nat.zero_add] at hhigh
    rw [hhigh, CellWave.bit, decide_eq_true hbit]
  · have hlow := h.low s.params.tSample (by omega)
    rw [Nat.zero_add] at hlow
    rw [hlow, CellWave.bit, decide_eq_false hbit]

section
variable {s : State} {c : CellWave} (hw : s.params.wellFormed = true) (hc : s.calm = true)
  (hcap : s.blk.phase = .cap) (hsub : s.blk.sub = .waitLow) (hcell : ShowsCell s 0 c)
  (ht : c.wellTimed s.params = true)
include hw hc hcap hsub hcell ht

/-- From the start of a well-timed cell its bit is stored, and WAIT_HIGH sees the line high `seenHigh` ticks after the
start (R86, R151). -/
theorem exists_atTick_seenHigh (hidx : s.blk.bitIdx ≤ 32) :
    ∃ m t, AtTick s (c.seenHigh s.params) ((s.blk.sampled (c.bit s.params)).withTimer m) t := by
  obtain ⟨hpos, hlate, -⟩ := CellWave.wellTimed_iff.1 ht
  have hwin := Params.tTimeout_pos hw
  have hseen : s.params.tSample + 1 + (c.low - (s.params.tSample + 1)) = c.seenHigh s.params := by
    simp only [CellWave.seenHigh]; omega
  obtain ⟨u, hu⟩ := exists_atTick_cellSample hw hc hcap hsub hidx (by simpa using hcell.low 0 hpos)
  rw [hcell.lineAt_sample ht] at hu
  obtain ⟨m, t, hend⟩ := exists_atTick_lateEnd (n := c.low - (s.params.tSample + 1)) hu.calm
    (by rw [hu.blk]; exact hcap) (by rw [hu.blk]; rfl) (by rw [hu.blk]; rfl) (by rw [hu.params]; omega) (fun k hk => by
      rw [hu.line]
      simpa using hcell.low (s.params.tSample + 1 + k) (by omega))
  have hall := hu.trans hend
  rw [hu.blk, hseen] at hall
  exact ⟨m, t, hall⟩

/-- The tick that sees the line high ends the cell (R83). -/
theorem exists_atTick_cellEnd (hidx : s.blk.bitIdx ≤ 32) :
    ∃ m t, AtTick s (c.seenHigh s.params + 1)
      (waitHighTick s.params true ((s.blk.sampled (c.bit s.params)).withTimer m)) t := by
  obtain ⟨-, -, hend⟩ := CellWave.wellTimed_iff.1 ht
  obtain ⟨m, u, hu⟩ := exists_atTick_seenHigh hw hc hcap hsub hcell ht hidx
  have hhigh : s.lineAt (c.seenHigh s.params) = true := by
    simpa using hcell.high (c.seenHigh s.params) (Nat.le_max_right _ _) hend
  refine ⟨m, _, hu.next ?_⟩
  rw [phaseTick_of_waitHigh (b := (s.blk.sampled (c.bit s.params)).withTimer m) hcap rfl, hhigh]

/-- From the start of a cell that is not the last to the start of the next one. -/
theorem exists_atTick_nextCell (hidx : s.blk.bitIdx < 32) (hgap : c.gapInWindow s.params = true) :
    ∃ m t, AtTick s (c.low + c.high)
      (({ s.blk.sampled (c.bit s.params) with sub := .waitLow } : Block).withTimer m) t := by
  obtain ⟨-, -, hend⟩ := CellWave.wellTimed_iff.1 ht
  simp only [CellWave.gapInWindow, decide_eq_true_eq] at hgap
  obtain ⟨m, u, hu⟩ := exists_atTick_cellEnd hw hc hcap hsub hcell ht hidx.le
  have hmore : ((s.blk.sampled (c.bit s.params)).withTimer m).bitIdx ≠ 33 := by
    simp only [Block.withTimer, Block.sampled]; omega
  rw [waitHighTick_high, if_neg hmore] at hu
  obtain ⟨t, hwait⟩ := exists_atTick_gap (n := c.low + c.high - (c.seenHigh s.params + 1)) hu.calm
    (by rw [hu.blk]; exact hcap) (by rw [hu.blk]) (by rw [hu.blk]) (by rwa [hu.params]) (fun k hk => by
      have hle : c.low ≤ c.seenHigh s.params := Nat.le_max_right _ _
      rw [hu.line]
      simpa using hcell.high (c.seenHigh s.params + 1 + k) (by omega) (by omega))
  have hall := hu.trans hwait
  rw [hu.blk, Nat.add_sub_cancel' hend] at hall
  exact ⟨_, t, hall⟩

/-- From the start of the last cell to the decode. -/
theorem exists_atTick_lastCell (hidx : s.blk.bitIdx = 32) :
    ∃ m t, AtTick s (c.seenHigh s.params + 1)
      (({ s.blk.sampled (c.bit s.params) with phase := .dec } : Block).withTimer m) t := by
  obtain ⟨m, t, hend⟩ := exists_atTick_cellEnd hw hc hcap hsub hcell ht hidx.le
  have hlast : ((s.blk.sampled (c.bit s.params)).withTimer m).bitIdx = 33 := by
    simp only [Block.withTimer, Block.sampled, hidx]
  rw [waitHighTick_high, if_pos hlast] at hend
  exact ⟨m, t, hend⟩

end

/-! ### The slots after the first cells -/

/-- The block has sampled the first `n` of `cells`, and the slots hold their bits. -/
structure Received (p : Params) (cells : List CellWave) (n : Nat) (b : Block) : Prop where
  bitIdx : b.bitIdx = n
  slots : ∀ j, j < n → b.raw[j]? = (cells[j]?).map fun c => if c.bit p then 0x01#8 else 0x00#8

theorem Received.sampled {p : Params} {cells : List CellWave} {n : Nat} {b : Block} {c : CellWave}
    (h : Received p cells n b) (hn : n < 33) (hc : cells[n]? = some c) :
    Received p cells (n + 1) (b.sampled (c.bit p)) where
  bitIdx := congrArg Nat.succ h.bitIdx
  slots j hj := by
    simp only [Block.sampled, h.bitIdx]
    by_cases he : j = n
    · subst he
      rw [Vector.getElem?_setIfInBounds_self_of_lt hn, hc, Option.map_some]
    · rw [Vector.getElem?_setIfInBounds_ne (Ne.symm he), h.slots j (by omega)]

/-- The block at the start of cell `n` of a response. -/
structure AtCell (p : Params) (cells : List CellWave) (n : Nat) (b : Block) : Prop where
  phase : b.phase = .cap
  sub : b.sub = .waitLow
  received : Received p cells n b

/-! ### The whole response -/

section
variable {s : State} {before rest : List Bool} {gap : Nat} {cells : List CellWave}
  (hw : s.params.wellFormed = true) (hidle : s.blk.phase = .idle) (hp : s.pollsOnce = true)
  (hbefore : before.length = 1 + nReq s.params) (hline : s.lineQ = before ++ (frameLevels gap cells ++ rest))
  (hgap : gap < s.params.tTimeout) (hlen : cells.length = 33)
  (htimed : ∀ c ∈ cells, c.wellTimed s.params = true)
  (hgaps : ∀ c ∈ cells.take 32, c.gapInWindow s.params = true)
include hw hidle hp hbefore hline hgap

/-- The response's first cell begins when its gap is over. -/
theorem exists_atTick_firstCell :
    ∃ b t, AtCell s.params cells 0 b ∧ AtTick s (before.length + gap) b t := by
  obtain ⟨u, hu⟩ := exists_atTick_captureStart hw hidle hp
  rw [Nat.add_comm, ← hbefore] at hu
  obtain ⟨t, ht⟩ := exists_atTick_gap hu.calm (by rw [hu.blk]; rfl) (by rw [hu.blk]; rfl) (by rw [hu.blk]; rfl)
    (by rwa [hu.params]) (fun k hk => by rw [hu.line]; exact lineAt_gap hline hk)
  have hall := hu.trans ht
  rw [hu.blk] at hall
  exact ⟨_, t, ⟨rfl, rfl, rfl, fun j hj => absurd hj (Nat.not_lt_zero j)⟩, hall⟩

include hlen htimed hgaps

/-- Cell `n` of the response begins as many ticks after the first one as the cells between them take. -/
theorem exists_atTick_cell (n : Nat) (hn : n ≤ 32) :
    ∃ b t, AtCell s.params cells n b ∧ AtTick s (before.length + (gap + cellsTicks (cells.take n))) b t := by
  induction n with
  | zero => exact exists_atTick_firstCell hw hidle hp hbefore hline hgap
  | succ n ih =>
    obtain ⟨b, u, hb, hu⟩ := ih (by omega)
    have hget : cells[n]? = some cells[n] := List.getElem?_eq_getElem (by omega)
    have hcell : ShowsCell u 0 cells[n] := hu.showsCell (showsCell_of_frameLevels hline hget)
    have hin : cells[n] ∈ cells.take 32 := List.mem_take_iff_getElem.2 ⟨n, by omega, rfl⟩
    obtain ⟨m, t, ht⟩ := exists_atTick_nextCell (by rwa [hu.params]) hu.calm (by rw [hu.blk, hb.phase])
      (by rw [hu.blk, hb.sub]) hcell (by rw [hu.params]; exact htimed _ (List.getElem_mem _))
      (by rw [hu.blk, hb.received.bitIdx]; omega) (by rw [hu.params]; exact hgaps _ hin)
    have hall := hu.trans ht
    rw [hu.blk, hu.params, Nat.add_assoc, Nat.add_assoc, ← cellsTicks_take_succ hget] at hall
    have hnext := hb.received.sampled (by omega) hget
    refine ⟨_, t, ?_, hall⟩
    exact ⟨hb.phase, rfl, hnext.bitIdx, hnext.slots⟩

/-- The decode begins after the tick that sees the last cell's line high, with the bits of all 33 cells in the
slots. -/
theorem exists_atTick_frameEnd :
    ∃ b t, b.phase = .dec ∧ Received s.params cells 33 b ∧
      AtTick s (before.length + (gap + cellsTicks (cells.take 32)) + (cells[32].seenHigh s.params + 1)) b t := by
  obtain ⟨b, u, hb, hu⟩ := exists_atTick_cell hw hidle hp hbefore hline hgap hlen htimed hgaps 32 le_rfl
  have hget : cells[32]? = some cells[32] := List.getElem?_eq_getElem (by omega)
  have hcell : ShowsCell u 0 cells[32] := hu.showsCell (showsCell_of_frameLevels hline hget)
  obtain ⟨m, t, ht⟩ := exists_atTick_lastCell (by rwa [hu.params]) hu.calm (by rw [hu.blk, hb.phase])
    (by rw [hu.blk, hb.sub]) hcell (by rw [hu.params]; exact htimed _ (List.getElem_mem _))
    (by rw [hu.blk, hb.received.bitIdx])
  have hall := hu.trans ht
  rw [hu.blk, hu.params] at hall
  have hnext := hb.received.sampled (by omega) hget
  refine ⟨_, t, ?_, ?_, hall⟩
  · rfl
  · exact ⟨hnext.bitIdx, hnext.slots⟩

end

theorem Received.getElem {p : Params} {cells : List CellWave} {b : Block} (h : Received p cells 33 b)
    (hlen : cells.length = 33) (i : Nat) (hi : i < 33) :
    b.raw[i] = if (cells[i]'(by omega)).bit p then 0x01#8 else 0x00#8 := by
  have hslot := h.slots i hi
  rwa [Vector.getElem?_eq_getElem hi, List.getElem?_eq_getElem (by omega), Option.map_some,
    Option.some.injEq] at hslot

end Sys2Proof.Machine

namespace Sys2Proof.Proofs.AnsweredPoll

open Sys2Proof Sys2Proof.Machine

/-- Settles O33: cell after cell the slots take the bits of the low pulses' widths, the last cell leads to the decode,
which packs the snapshot that those bits encode, and a run that ends busy was busy throughout. -/
theorem wellTimedFrameIsReceived : Obligations.WellTimedFrameIsReceived := by
  intro s before rest gap cells sn hlen hw hidle hp hbefore hline hgap htimed hgaps hbits busyTicks
  obtain ⟨-, -, hcalm⟩ := s.pollsOnce_iff.1 hp
  obtain ⟨b, u, hdec, hreceived, hu⟩ :=
    exists_atTick_frameEnd hw hidle hp hbefore hline hgap hlen htimed hgaps
  have hticks : busyTicks = before.length + (gap + cellsTicks (cells.take 32)) +
      (cells[32].seenHigh s.params + 1) := by
    simp only [busyTicks, cellsTicks, hbefore]
    omega
  rw [← hticks] at hu
  have hend := hu.next (c := decTick b) (by rw [hdec]; rfl)
  have hsnap : packSnapshot b.raw = sn :=
    packSnapshot_of_frameBit fun i => by rw [hreceived.getElem hlen i.val (by omega), hbits i]
  refine ⟨busy_of_busy_end hcalm hu.run ?_, _, hend.run, rfl, rfl, hsnap, fun i hi => hreceived.getElem hlen i hi⟩
  rw [State.busy_iff, hu.blk, hdec]
  decide

end Sys2Proof.Proofs.AnsweredPoll
